-- ==== Sys2Proof/Word.lean ====
section
/-! DEFINITION. The words of the block: bytes, nibbles and the widths of the named values (R10, R12). -/

namespace Sys2Proof

/-- `byte` of R12. -/
abbrev Byte := BitVec 8

/-- `nibble` of R12. -/
abbrev Nibble := BitVec 4

/-- A magazine number, 1..8 when legal, in the 4 bits of R21. -/
abbrev Magazine := BitVec 4

/-- A teletext page number 0x00..0xFF (R21). -/
abbrev Page := BitVec 8

/-- A subcode, `SUBCODE_W = 13` bits (R9). -/
abbrev Subcode := BitVec 13

/-- A row number 0..31 (R9), also the width of `elideRow` (R21). -/
abbrev Row := BitVec 5

end Sys2Proof
end

