-- ==== Sys2Proof/Config.lean ====
section
/-! DEFINITION. The parameters of R9, and the values the spec leaves free. -/

namespace Sys2Proof

/-- `PKT_LEN` (R9): bytes in one packet. -/
abbrev Config.pktLen : Nat := 42

/-- `BATCH` (R9): packets per Ingest Loop cycle. -/
abbrev Config.batch : Nat := 16

/-- `LAST_TEXT_ROW` (R9): the last displayable row. -/
abbrev Config.lastTextRow : Nat := 24

/-- The renderer's answer to the `n`-th `PaintRow` whose answer the environment did not script.
A free value without a law (R153, D18, U14; log 9). -/
opaque Config.freeAnswer : Nat → Bool

/-- Whether `Cleanup` follows `LogFatal` after `FatalIngest`: left open (R201, U6; log 10). -/
opaque Config.cleanupAfterFatal : Bool

/-- Whether `Ack` is sent for a control message that quits: left open (R183, U7; log 11). -/
opaque Config.ackAfterQuit : Bool

/-- A packet: a byte sequence whose length is 42 (R60, R80). -/
structure Packet where
  bytes : List Byte
  len_eq : bytes.length = 42
  deriving DecidableEq, Repr

/-- The digit-entry buffer, `entryBuf[0]` (the oldest) first (R21). -/
structure EntryBuf where
  c0 : Byte
  c1 : Byte
  c2 : Byte
  deriving DecidableEq, Repr

/-- The two keys that alias one favourite slot (R177). -/
structure KeyPair where
  first : Byte
  second : Byte
  deriving DecidableEq, Repr

/-- The parameter `FAV_KEYS` (R9): two characters for each of the four slots. -/
structure FavKeys where
  slot0 : KeyPair
  slot1 : KeyPair
  slot2 : KeyPair
  slot3 : KeyPair
  deriving DecidableEq, Repr

/-- A (magazine, page) pair, the PageID of R14. -/
structure PageId where
  mag : Magazine
  page : Page
  deriving DecidableEq, Repr

/-- `favoriteSlots[0..3]` (R21): what `getFavoriteMag`, `getFavoritePage` answer (R29). -/
structure Favourites where
  slot0 : PageId
  slot1 : PageId
  slot2 : PageId
  slot3 : PageId
  deriving DecidableEq, Repr

/-- The open parameters of R9 that a machine is built with; no step writes them (log 8). -/
structure Params where
  /-- `LAST_SUBCODE_RESET` (D8). -/
  lastSubcodeReset : Subcode
  /-- `ENTRY_BUF_RESET` (D10). -/
  entryBufReset : EntryBuf
  /-- The unspecified reset value of `lastHeaderPacket` (R22, D9). -/
  lastHeaderReset : Packet
  /-- `FAV_KEYS` (D11). -/
  favKeys : FavKeys
  deriving DecidableEq, Repr

/-- A packet of 42 zero bytes. -/
def Packet.zero : Packet := ⟨List.replicate 42 0, rfl⟩

/-- The parameter values `State.reset` is built with. DESIGN CHOICE, unsafe: the spec leaves each of
them open (log 2, 3, 5, 6). -/
def Params.chosen : Params where
  lastSubcodeReset := 0
  entryBufReset := ⟨0x30, 0x30, 0x30⟩
  lastHeaderReset := Packet.zero
  favKeys := ⟨⟨0x42, 0x43⟩, ⟨0x44, 0x45⟩, ⟨0x46, 0x47⟩, ⟨0x49, 0x4A⟩⟩

end Sys2Proof
end

