-- ==== Sys2Proof/Syntax.lean ====
section
/-! DEFINITION. The instructions: one constructor per row of `spec/opcode_table.json` (R86, R88). -/

namespace Sys2Proof

/-- An instruction: a packet class with its 42 bytes (R86), or a host command (R88). -/
inductive Instr where
  /-- `HDR`, row 0 (R142). -/
  | hdr (p : Packet)
  /-- `ROW1`, row 1 (R154). -/
  | row1 (p : Packet)
  /-- `ROW2`, row 2 (R154). -/
  | row2 (p : Packet)
  /-- `ROW3`, row 3 (R154). -/
  | row3 (p : Packet)
  /-- `ROW4`, row 4 (R154). -/
  | row4 (p : Packet)
  /-- `ROW5`, row 5 (R154). -/
  | row5 (p : Packet)
  /-- `ROW6`, row 6 (R154). -/
  | row6 (p : Packet)
  /-- `ROW7`, row 7 (R154). -/
  | row7 (p : Packet)
  /-- `ROW8`, row 8 (R154). -/
  | row8 (p : Packet)
  /-- `ROW9`, row 9 (R154). -/
  | row9 (p : Packet)
  /-- `ROW10`, row 10 (R154). -/
  | row10 (p : Packet)
  /-- `ROW11`, row 11 (R154). -/
  | row11 (p : Packet)
  /-- `ROW12`, row 12 (R154). -/
  | row12 (p : Packet)
  /-- `ROW13`, row 13 (R154). -/
  | row13 (p : Packet)
  /-- `ROW14`, row 14 (R154). -/
  | row14 (p : Packet)
  /-- `ROW15`, row 15 (R154). -/
  | row15 (p : Packet)
  /-- `ROW16`, row 16 (R154). -/
  | row16 (p : Packet)
  /-- `ROW17`, row 17 (R154). -/
  | row17 (p : Packet)
  /-- `ROW18`, row 18 (R154). -/
  | row18 (p : Packet)
  /-- `ROW19`, row 19 (R154). -/
  | row19 (p : Packet)
  /-- `ROW20`, row 20 (R154). -/
  | row20 (p : Packet)
  /-- `ROW21`, row 21 (R154). -/
  | row21 (p : Packet)
  /-- `ROW22`, row 22 (R154). -/
  | row22 (p : Packet)
  /-- `ROW23`, row 23 (R154). -/
  | row23 (p : Packet)
  /-- `ROW24`, row 24 (R154). -/
  | row24 (p : Packet)
  /-- `IGN25`, row 25 (R157). -/
  | ign25 (p : Packet)
  /-- `META26`, row 26 (R155). -/
  | meta26 (p : Packet)
  /-- `LINK27`, row 27 (R156). -/
  | link27 (p : Packet)
  /-- `META28`, row 28 (R155). -/
  | meta28 (p : Packet)
  /-- `IGN29`, row 29 (R157). -/
  | ign29 (p : Packet)
  /-- `IGN30`, row 30 (R157). -/
  | ign30 (p : Packet)
  /-- `IGN31`, row 31 (R157). -/
  | ign31 (p : Packet)
  /-- `HOLD`, character h (R176). -/
  | hold
  /-- `REVEAL`, character r (R179). -/
  | reveal
  /-- `QUIT`, character q (R180). -/
  | quit
  /-- `QUIT_ESC`, character ESC (R180). -/
  | quitEsc
  /-- `DIGIT0`, character 0 (R178). -/
  | digit0
  /-- `DIGIT1`, character 1 (R178). -/
  | digit1
  /-- `DIGIT2`, character 2 (R178). -/
  | digit2
  /-- `DIGIT3`, character 3 (R178). -/
  | digit3
  /-- `DIGIT4`, character 4 (R178). -/
  | digit4
  /-- `DIGIT5`, character 5 (R178). -/
  | digit5
  /-- `DIGIT6`, character 6 (R178). -/
  | digit6
  /-- `DIGIT7`, character 7 (R178). -/
  | digit7
  /-- `DIGIT8`, character 8 (R178). -/
  | digit8
  /-- `DIGIT9`, character 9 (R178). -/
  | digit9
  /-- `FAV0`, one of the two keys of slot 0 (R177). -/
  | fav0 (second : Bool)
  /-- `FAV1`, one of the two keys of slot 1 (R177). -/
  | fav1 (second : Bool)
  /-- `FAV2`, one of the two keys of slot 2 (R177). -/
  | fav2 (second : Bool)
  /-- `FAV3`, one of the two keys of slot 3 (R177). -/
  | fav3 (second : Bool)
  /-- `NOCMD`: no character, or one that names no command (R175). -/
  | nocmd (c : Option Byte)
  deriving DecidableEq, Repr

/-- The packet and the row number of a packet instruction (R86); `none` for a host command. -/
def Instr.packetRow : Instr → Option (Packet × Row)
  | .hdr p => some (p, 0)
  | .row1 p => some (p, 1)
  | .row2 p => some (p, 2)
  | .row3 p => some (p, 3)
  | .row4 p => some (p, 4)
  | .row5 p => some (p, 5)
  | .row6 p => some (p, 6)
  | .row7 p => some (p, 7)
  | .row8 p => some (p, 8)
  | .row9 p => some (p, 9)
  | .row10 p => some (p, 10)
  | .row11 p => some (p, 11)
  | .row12 p => some (p, 12)
  | .row13 p => some (p, 13)
  | .row14 p => some (p, 14)
  | .row15 p => some (p, 15)
  | .row16 p => some (p, 16)
  | .row17 p => some (p, 17)
  | .row18 p => some (p, 18)
  | .row19 p => some (p, 19)
  | .row20 p => some (p, 20)
  | .row21 p => some (p, 21)
  | .row22 p => some (p, 22)
  | .row23 p => some (p, 23)
  | .row24 p => some (p, 24)
  | .ign25 p => some (p, 25)
  | .meta26 p => some (p, 26)
  | .link27 p => some (p, 27)
  | .meta28 p => some (p, 28)
  | .ign29 p => some (p, 29)
  | .ign30 p => some (p, 30)
  | .ign31 p => some (p, 31)
  | .hold => none
  | .reveal => none
  | .quit => none
  | .quitEsc => none
  | .digit0 => none
  | .digit1 => none
  | .digit2 => none
  | .digit3 => none
  | .digit4 => none
  | .digit5 => none
  | .digit6 => none
  | .digit7 => none
  | .digit8 => none
  | .digit9 => none
  | .fav0 _ => none
  | .fav1 _ => none
  | .fav2 _ => none
  | .fav3 _ => none
  | .nocmd _ => none

/-- What a port carries for one instruction: the bytes of a packet (R120), or one character or none
(R88, U21). -/
inductive Wire where
  | packet (bytes : List Byte)
  | command (c : Option Byte)
  deriving DecidableEq, Repr

end Sys2Proof
end

