-- ==== Sys2Proof/Machine/Operands.lean ====
section
/-! DEFINITION. The operand forms: the five functions of the Field Decoder (`40_field_decoder.md`) and
the reading of a packet's bytes (R62, R85). -/

namespace Sys2Proof.Machine

/-- `P[k]`, the byte at offset `k` of the packet (R62). -/
def byteAt (p : Packet) (k : Fin 42) : Byte :=
  p.bytes.get (k.cast p.len_eq.symm)

/-- `decodeField` (R100): the bits 1, 3, 5, 7 of the byte are the bits 0, 1, 2, 3 of the nibble. -/
def decodeField (b : Byte) : Nibble :=
  BitVec.ofBool (b.getLsbD 7) ++ BitVec.ofBool (b.getLsbD 5) ++
    BitVec.ofBool (b.getLsbD 3) ++ BitVec.ofBool (b.getLsbD 1)

/-- `decodeAddress` (R103): the magazine 1..8 and the row 0..31 of the two address bytes. -/
def decodeAddress (b0 b1 : Byte) : Magazine × Row :=
  let rowlsb := decodeField b0
  let mag3 := rowlsb % 8#4
  let magazine := if mag3 = 0#4 then 8#4 else mag3
  let row := (decodeField b1).setWidth 5 <<< 1
  (magazine, if rowlsb &&& 8#4 = 0#4 then row else row + 1#5)

/-- The magazine of a packet (R85). -/
def magazineOf (p : Packet) : Magazine :=
  (decodeAddress (byteAt p 0) (byteAt p 1)).1

/-- The row number of a packet (R85). -/
def rowOf (p : Packet) : Row :=
  (decodeAddress (byteAt p 0) (byteAt p 1)).2

/-- `decodePageNumber` (R107): tens at offset 3, units at offset 2. -/
def decodePageNumber (p : Packet) : Page :=
  (decodeField (byteAt p 3)).setWidth 8 * 16#8 + (decodeField (byteAt p 2)).setWidth 8

/-- `decodeSubcode` (R109): fields of 4, 3, 4 and 2 bits from the offsets 4 to 7. -/
def decodeSubcode (p : Packet) : Subcode :=
  let f1 := (decodeField (byteAt p 4)).setWidth 13
  let f2 := (decodeField (byteAt p 5) &&& 7#4).setWidth 13
  let f3 := (decodeField (byteAt p 6)).setWidth 13
  let f4 := (decodeField (byteAt p 7) &&& 3#4).setWidth 13
  (f4 <<< 11) ||| (f3 <<< 7) ||| (f2 <<< 4) ||| f1

/-- `decodeControlFlag` (R111): bit 0 of the nibble at offset 8. -/
def decodeControlFlag (p : Packet) : Bool :=
  (decodeField (byteAt p 8)).getLsbD 0

end Sys2Proof.Machine
end

