-- ==== Sys2Proof/WellFormed.lean ====
section
/-! DEFINITION. Which key tables and which instructions are well formed (R9, R86, R88). -/

namespace Sys2Proof

/-- The characters of R88 whose command is fixed: h, r, q, ESC and the ten digits. -/
def isFixedCommand (c : Byte) : Bool :=
  c == 0x68#8 || c == 0x72#8 || c == 0x71#8 || c == 0x1B#8 ||
    (decide (0x30#8 ≤ c) && decide (c ≤ 0x39#8))

/-- The eight characters in the domain of `FAV_KEYS`. -/
def FavKeys.all (k : FavKeys) : List Byte :=
  [k.slot0.first, k.slot0.second, k.slot1.first, k.slot1.second,
   k.slot2.first, k.slot2.second, k.slot3.first, k.slot3.second]

/-- The domain of `FAV_KEYS` (R9): exactly eight characters, two per slot, none of them h, r, q, ESC or
a decimal digit. -/
def FavKeys.wf (k : FavKeys) : Bool :=
  decide k.all.Nodup && k.all.all (fun c => !isFixedCommand c)

/-- A decimal digit character (R34). -/
def isDigit (c : Byte) : Bool := decide (0x30#8 ≤ c) && decide (c ≤ 0x39#8)

/-- Every character of the buffer is a decimal digit (R21, R34). -/
def EntryBuf.wf (b : EntryBuf) : Bool := isDigit b.c0 && isDigit b.c1 && isDigit b.c2

/-- The domain of the parameters (R9). -/
def Params.wf (p : Params) : Bool := p.entryBufReset.wf && p.favKeys.wf

/-- An instruction is well formed under a key table: a packet instruction holds a packet of its own
row (R86), and `NOCMD` holds a character that names no command (R88). -/
def Instr.wf (keys : FavKeys) : Instr → Bool
  | .hdr p => Machine.rowOf p == 0#5
  | .row1 p => Machine.rowOf p == 1#5
  | .row2 p => Machine.rowOf p == 2#5
  | .row3 p => Machine.rowOf p == 3#5
  | .row4 p => Machine.rowOf p == 4#5
  | .row5 p => Machine.rowOf p == 5#5
  | .row6 p => Machine.rowOf p == 6#5
  | .row7 p => Machine.rowOf p == 7#5
  | .row8 p => Machine.rowOf p == 8#5
  | .row9 p => Machine.rowOf p == 9#5
  | .row10 p => Machine.rowOf p == 10#5
  | .row11 p => Machine.rowOf p == 11#5
  | .row12 p => Machine.rowOf p == 12#5
  | .row13 p => Machine.rowOf p == 13#5
  | .row14 p => Machine.rowOf p == 14#5
  | .row15 p => Machine.rowOf p == 15#5
  | .row16 p => Machine.rowOf p == 16#5
  | .row17 p => Machine.rowOf p == 17#5
  | .row18 p => Machine.rowOf p == 18#5
  | .row19 p => Machine.rowOf p == 19#5
  | .row20 p => Machine.rowOf p == 20#5
  | .row21 p => Machine.rowOf p == 21#5
  | .row22 p => Machine.rowOf p == 22#5
  | .row23 p => Machine.rowOf p == 23#5
  | .row24 p => Machine.rowOf p == 24#5
  | .ign25 p => Machine.rowOf p == 25#5
  | .meta26 p => Machine.rowOf p == 26#5
  | .link27 p => Machine.rowOf p == 27#5
  | .meta28 p => Machine.rowOf p == 28#5
  | .ign29 p => Machine.rowOf p == 29#5
  | .ign30 p => Machine.rowOf p == 30#5
  | .ign31 p => Machine.rowOf p == 31#5
  | .hold => true
  | .reveal => true
  | .quit => true
  | .quitEsc => true
  | .digit0 => true
  | .digit1 => true
  | .digit2 => true
  | .digit3 => true
  | .digit4 => true
  | .digit5 => true
  | .digit6 => true
  | .digit7 => true
  | .digit8 => true
  | .digit9 => true
  | .fav0 _ => true
  | .fav1 _ => true
  | .fav2 _ => true
  | .fav3 _ => true
  | .nocmd none => true
  | .nocmd (some c) => !isFixedCommand c && !keys.all.contains c
end Sys2Proof
end

