-- ==== Sys2Proof/Decode.lean ====
section
/-! DEFINITION. From bytes to instructions and back (`30_encoding.md`). -/

namespace Sys2Proof

open Machine

/-- Why bytes are no instruction: the packet is shorter (R122) or longer (R120) than 42 bytes. -/
inductive Reject where
  | shortPacket (len : Nat)
  | overlongPacket (len : Nat)
  deriving DecidableEq, Repr

/-- The packet class of a row number (R86). -/
def instrOfRow (r : Row) (p : Packet) : Instr :=
  match r.toNat with
  | 0 => .hdr p
  | 1 => .row1 p
  | 2 => .row2 p
  | 3 => .row3 p
  | 4 => .row4 p
  | 5 => .row5 p
  | 6 => .row6 p
  | 7 => .row7 p
  | 8 => .row8 p
  | 9 => .row9 p
  | 10 => .row10 p
  | 11 => .row11 p
  | 12 => .row12 p
  | 13 => .row13 p
  | 14 => .row14 p
  | 15 => .row15 p
  | 16 => .row16 p
  | 17 => .row17 p
  | 18 => .row18 p
  | 19 => .row19 p
  | 20 => .row20 p
  | 21 => .row21 p
  | 22 => .row22 p
  | 23 => .row23 p
  | 24 => .row24 p
  | 25 => .ign25 p
  | 26 => .meta26 p
  | 27 => .link27 p
  | 28 => .meta28 p
  | 29 => .ign29 p
  | 30 => .ign30 p
  | _ => .ign31 p

/-- The class of a packet: its row number is its opcode (R86); no packet is illegal (R89). -/
def decodePacket (p : Packet) : Instr := instrOfRow (rowOf p) p

/-- The slot and the position of a favourite key; `none` outside the domain of `FAV_KEYS` (R177). -/
def FavKeys.find (k : FavKeys) (c : Byte) : Option (Fin 4 × Bool) :=
  if c = k.slot0.first then some (0, false)
  else if c = k.slot0.second then some (0, true)
  else if c = k.slot1.first then some (1, false)
  else if c = k.slot1.second then some (1, true)
  else if c = k.slot2.first then some (2, false)
  else if c = k.slot2.second then some (2, true)
  else if c = k.slot3.first then some (3, false)
  else if c = k.slot3.second then some (3, true)
  else none

/-- The command of a digit character (R178, rows `DIGIT0` .. `DIGIT9`). -/
def digitInstr (c : Byte) : Option Instr :=
  match c.toNat with
  | 48 => some .digit0
  | 49 => some .digit1
  | 50 => some .digit2
  | 51 => some .digit3
  | 52 => some .digit4
  | 53 => some .digit5
  | 54 => some .digit6
  | 55 => some .digit7
  | 56 => some .digit8
  | 57 => some .digit9
  | _ => none

/-- The recall of a found key (R177), or no command (R175). -/
def favouriteInstr (c : Byte) : Option (Fin 4 × Bool) → Instr
  | some (0, b) => .fav0 b
  | some (1, b) => .fav1 b
  | some (2, b) => .fav2 b
  | some (3, b) => .fav3 b
  | none => .nocmd (some c)

/-- The command of one character under a key table (R88). The fixed characters come first, which
matters only for a table outside the domain of R9 (log 24). -/
def decodeChar (keys : FavKeys) (c : Byte) : Instr :=
  if c = 0x68#8 then .hold
  else if c = 0x72#8 then .reveal
  else if c = 0x71#8 then .quit
  else if c = 0x1B#8 then .quitEsc
  else
    match digitInstr c with
    | some i => i
    | none => favouriteInstr c (keys.find c)

/-- The command of one input of the interpreter, a character or nothing (R88, R175). -/
def decodeCommand (keys : FavKeys) : Option Byte → Instr
  | none => .nocmd none
  | some c => decodeChar keys c

/-- Reads one instruction: a sequence of exactly 42 bytes by its row number, any other sequence is
rejected by name, a character by the command table. -/
def decode (keys : FavKeys) : Wire → Except Reject Instr
  | .packet bs =>
    if h : bs.length = 42 then .ok (decodePacket ⟨bs, h⟩)
    else if bs.length < 42 then .error (.shortPacket bs.length)
    else .error (.overlongPacket bs.length)
  | .command c => .ok (decodeCommand keys c)

/-- `match(r)` of R87: the bits of the row number at the bits 7, 9, 11, 13, 15 of `mrag16`. -/
def matchOfRow (r : Row) : BitVec 16 :=
  ((r &&& 1#5).setWidth 16 <<< 7) ||| (((r >>> 1) &&& 1#5).setWidth 16 <<< 9) |||
    (((r >>> 2) &&& 1#5).setWidth 16 <<< 11) ||| (((r >>> 3) &&& 1#5).setWidth 16 <<< 13) |||
    (((r >>> 4) &&& 1#5).setWidth 16 <<< 15)

/-- `mrag16 = (P[1] << 8) | P[0]` (R87). -/
def mrag16 (p : Packet) : BitVec 16 :=
  ((byteAt p 1).setWidth 16 <<< 8) ||| (byteAt p 0).setWidth 16

/-- Replaces the first two bytes of a packet by the two halves of a word `mrag16`. -/
def withMrag (p : Packet) (w : BitVec 16) : Packet :=
  ⟨(p.bytes.set 0 (w.setWidth 8)).set 1 ((w >>> 8).setWidth 8), by simp [p.len_eq]⟩

/-- The 42 bytes of a packet instruction: its packet with the row bits of R87 put in place; magazine
bits, check bits and payload are the packet's own. -/
def encodeRow (p : Packet) (r : Row) : Wire :=
  .packet (withMrag p ((mrag16 p &&& 0x557F#16) ||| matchOfRow r)).bytes

/-- The character of a favourite key. -/
def KeyPair.pick (k : KeyPair) (second : Bool) : Byte := if second then k.second else k.first

/-- Writes an instruction from the tables of R87 and R88. -/
def encode (keys : FavKeys) : Instr → Wire
  | .hdr p => encodeRow p 0#5
  | .row1 p => encodeRow p 1#5
  | .row2 p => encodeRow p 2#5
  | .row3 p => encodeRow p 3#5
  | .row4 p => encodeRow p 4#5
  | .row5 p => encodeRow p 5#5
  | .row6 p => encodeRow p 6#5
  | .row7 p => encodeRow p 7#5
  | .row8 p => encodeRow p 8#5
  | .row9 p => encodeRow p 9#5
  | .row10 p => encodeRow p 10#5
  | .row11 p => encodeRow p 11#5
  | .row12 p => encodeRow p 12#5
  | .row13 p => encodeRow p 13#5
  | .row14 p => encodeRow p 14#5
  | .row15 p => encodeRow p 15#5
  | .row16 p => encodeRow p 16#5
  | .row17 p => encodeRow p 17#5
  | .row18 p => encodeRow p 18#5
  | .row19 p => encodeRow p 19#5
  | .row20 p => encodeRow p 20#5
  | .row21 p => encodeRow p 21#5
  | .row22 p => encodeRow p 22#5
  | .row23 p => encodeRow p 23#5
  | .row24 p => encodeRow p 24#5
  | .ign25 p => encodeRow p 25#5
  | .meta26 p => encodeRow p 26#5
  | .link27 p => encodeRow p 27#5
  | .meta28 p => encodeRow p 28#5
  | .ign29 p => encodeRow p 29#5
  | .ign30 p => encodeRow p 30#5
  | .ign31 p => encodeRow p 31#5
  | .hold => .command (some 0x68#8)
  | .reveal => .command (some 0x72#8)
  | .quit => .command (some 0x71#8)
  | .quitEsc => .command (some 0x1B#8)
  | .digit0 => .command (some 0x30#8)
  | .digit1 => .command (some 0x31#8)
  | .digit2 => .command (some 0x32#8)
  | .digit3 => .command (some 0x33#8)
  | .digit4 => .command (some 0x34#8)
  | .digit5 => .command (some 0x35#8)
  | .digit6 => .command (some 0x36#8)
  | .digit7 => .command (some 0x37#8)
  | .digit8 => .command (some 0x38#8)
  | .digit9 => .command (some 0x39#8)
  | .fav0 b => .command (some (keys.slot0.pick b))
  | .fav1 b => .command (some (keys.slot1.pick b))
  | .fav2 b => .command (some (keys.slot2.pick b))
  | .fav3 b => .command (some (keys.slot3.pick b))
  | .nocmd c => .command c

/-- `E0` of R91: a coded byte with zero check bits. -/
def E0 (n : Nibble) : Byte :=
  ((n &&& 1#4).setWidth 8 <<< 1) ||| (((n >>> 1) &&& 1#4).setWidth 8 <<< 3) |||
    (((n >>> 2) &&& 1#4).setWidth 8 <<< 5) ||| (((n >>> 3) &&& 1#4).setWidth 8 <<< 7)

/-- `EH` of R91: the broadcast Hamming 8/4 code words (general knowledge in the spec, G3). -/
def EH (n : Nibble) : Byte :=
  match n.toNat with
  | 0 => 0x15 | 1 => 0x02 | 2 => 0x49 | 3 => 0x5E | 4 => 0x64 | 5 => 0x73 | 6 => 0x38 | 7 => 0x2F
  | 8 => 0xD0 | 9 => 0xC7 | 10 => 0x8C | 11 => 0x9B | 12 => 0xA1 | 13 => 0xB6 | 14 => 0xFD
  | _ => 0xEA

/-- `P[0]` of the reference encoder (R91): `E((m mod 8) | ((r & 1) << 3))`. -/
def refMrag0 (E : Nibble → Byte) (m : Magazine) (r : Row) : Byte :=
  E ((m % 8#4) ||| ((r &&& 1#5).setWidth 4 <<< 3))

/-- `P[1]` of the reference encoder (R91): `E(r >> 1)`. -/
def refMrag1 (E : Nibble → Byte) (r : Row) : Byte := E ((r >>> 1).setWidth 4)

/-- The line `ROW m r` of R90 as 42 bytes (R91). -/
def refRow (E : Nibble → Byte) (m : Magazine) (r : Row) : Packet :=
  ⟨refMrag0 E m r :: refMrag1 E r :: List.replicate 40 0x20#8, rfl⟩

/-- The line `HDR m pp ssss c` of R90 as 42 bytes (R91). -/
def refHeader (E : Nibble → Byte) (m : Magazine) (page : Page) (sub : Subcode) (ctl : Bool) : Packet :=
  ⟨refMrag0 E m 0#5 :: refMrag1 E 0#5 :: E (page.setWidth 4) :: E ((page >>> 4).setWidth 4) ::
    E (sub.setWidth 4) :: E (((sub >>> 4) &&& 7#13).setWidth 4) :: E ((sub >>> 7).setWidth 4) ::
    E (((sub >>> 11) &&& 3#13).setWidth 4) :: E (if ctl then 1#4 else 0#4) ::
    List.replicate 33 0x20#8, rfl⟩

/-- The `k`-th byte of a word whose first byte is its least significant one. -/
def wordByte (w k : Nat) : Byte := BitVec.ofNat 8 (w >>> (8 * k))

/-- The 42 bytes whose first `nbits` bits are `w`, every later bit 0. -/
def packetOfWord (nbits w : Nat) : Packet :=
  ⟨(List.range 42).map (wordByte (w % 2 ^ nbits)), by simp⟩

/-- What a port carries for an instruction of the opcode table: no bits is no character, up to 8 bits
a character, more bits the first bytes of a packet. -/
def wireOfWord (nbits w : Nat) : Wire :=
  if nbits = 0 then .command none
  else if nbits ≤ 8 then .command (some (wordByte (w % 2 ^ nbits) 0))
  else .packet (packetOfWord nbits w).bytes

/-- The instruction the decoder reads from a word of the opcode table, with the key table of
`State.reset`. -/
def decodeTableWord (nbits w : Nat) : Option Instr :=
  match decode Params.chosen.favKeys (wireOfWord nbits w) with
  | .ok i => some i
  | .error _ => none

end Sys2Proof
end

