-- ==== Sys2Proof/Machine/State.lean ====
section
/-! DEFINITION. The state of the block and of its environment, as plain data; the reasons a step stops. -/

namespace Sys2Proof.Machine

/-- The packet buffer's cells: (offset, byte) pairs, offsets strictly rising; an unlisted offset holds
no byte (R60; log 15). -/
abbrev Memory := List Host.Cell

/-- One item of the port `PKT`: at most 42 bytes (R120, D16). -/
structure Delivery where
  bytes : List Byte
  len_le : bytes.length ≤ 42
  deriving DecidableEq, Repr

/-- `haltCause` (R23, R203). -/
inductive HaltCause where
  /-- Running. -/
  | none
  /-- `SHORT_PACKET`: `FatalIngest` (R201). -/
  | shortPacket
  /-- `QUIT`: the command q or ESC (R180). -/
  | quit
  /-- `INT`: the external interrupt (R186). -/
  | int
  deriving DecidableEq, Repr

/-- The action vocabulary (R141). -/
inductive Action where
  | paintHeader (p : Packet) (mag : Magazine) (page : Page) (seeking suppressHeader : Bool)
  | paintHoldHeader (p : Packet)
  | paintRow (p : Packet) (row : Row)
  | blankRow (row : Row)
  | rendererClear
  | idlePump
  | metaDecode (p : Packet) (row : Row)
  | linkDecode (p : Packet)
  | colorReset
  | toggleReveal
  | echoTypingHeader (buf : EntryBuf)
  | logFatal
  | cleanup
  | ack
  deriving DecidableEq, Repr

/-- The primitives of the control port (R170). -/
inductive Primitive where
  | setTune (mag : Magazine) (page : Page)
  | toggleHold
  | toggleReveal
  /-- `HALT(QUIT)`. -/
  | haltQuit
  /-- `HALT(INT)`. -/
  | haltInt
  deriving DecidableEq, Repr

/-- Where the Ingest Loop stands in its cycle (R184): before the packet `k` of the batch, before the
key poll, before the poll of the control channel. -/
inductive LoopPhase where
  | packet (k : Fin 16)
  | key
  | message
  deriving DecidableEq, Repr

/-- What the outside does next: a port is served, a primitive is issued (R187), the interrupt signal
comes (R186), the renderer's favourites change (R29), reset comes (R230). -/
inductive Turn where
  | packet
  | key
  | message
  | primitive (p : Primitive)
  | interrupt
  | favourites (f : Favourites)
  | reset (initMag initPage : Nat)
  deriving DecidableEq, Repr

/-- The whole state. INVENTORY.md lists every field with its rule and its reset value. -/
structure State where
  /-- The Tuning State (R21). -/
  currentMag : Magazine
  currentPage : Page
  capturing : Bool
  wasCapturing : Bool
  seeking : Bool
  lastSubcode : Subcode
  /-- One bit per row number (R30). -/
  rowsSeen : BitVec 32
  elideRow : Row
  holdMode : Bool
  revealMode : Bool
  suppressHeader : Bool
  entryBuf : EntryBuf
  favoriteSlots : Favourites
  /-- The two registers outside the record (R22). -/
  rowCounter : Nat
  lastHeaderPacket : Packet
  /-- The halt registers (R23). -/
  halted : Bool
  haltCause : HaltCause
  /-- The packet buffer (R60). -/
  buffer : Memory
  /-- Deliveries not yet read, oldest first (R120; log 13). -/
  pkt : List Delivery
  /-- What the coming `getKey` polls answer (R182; log 14). -/
  keys : List (Option Byte)
  /-- What the coming polls of the control channel find (R183; log 14): a message is the list of its
  characters, each a code 0..255. DESIGN CHOICE: R88 calls the payload UTF-8 text and gives no rule for a
  character beyond these codes (log 38). -/
  messages : List (Option (List Byte))
  /-- The Ingest Loop's place in its cycle (R184). -/
  phase : LoopPhase
  /-- What the environment does ahead of the loop's own order (R185; log 12). -/
  turns : List Turn
  /-- The renderer's coming answers to `PaintRow` (R153; log 9). -/
  answers : List Bool
  /-- How many answers were drawn as free values (log 9). -/
  draws : Nat
  /-- The ordered action list of the step just taken (R141; log 16). -/
  actions : List Action
  /-- The open parameters of R9; never written (log 8). -/
  params : Params
  deriving DecidableEq, Repr

/-- Why a machine is stuck. -/
inductive Fault where
  /-- Raised by every step and every instruction while `halted = 1`: no step is taken (R204, U15).
  Safe: the spec's block does nothing from there on either (log 17). -/
  | halted
  deriving DecidableEq, Repr

/-- Why a step has no meaning. -/
inductive Refusal where
  /-- Raised by an arm of `exec` whose instruction has no meaning yet; no arm does. Safe. -/
  | notModelled (mnemonic : String)
  /-- Raised by `SET_TUNE` with a magazine outside 1..8, also through a favourite (R171, D12, U11).
  Safe: the spec refuses the step (log 21). -/
  | magazineOutOfRange
  /-- Raised by reset with parameters outside their domain (R232, D12, U12). Safe (log 22). -/
  | resetParameterOutOfRange
  /-- Raised by a control message of more than one character (R183, D20). Safe (log 23). -/
  | controlMessageTooLong
  deriving DecidableEq, Repr

/-- What a step or an instruction answers. -/
abbrev Result := Host.Outcome State Fault Refusal

/-- The machine right after reset (R231, R232), with the parameter values that log 2 to 7 name and an
environment that has done nothing yet. -/
def State.reset : State where
  currentMag := 1
  currentPage := 0x00
  capturing := false
  wasCapturing := false
  seeking := true
  lastSubcode := Params.chosen.lastSubcodeReset
  rowsSeen := 0
  elideRow := 0
  holdMode := false
  revealMode := false
  suppressHeader := false
  entryBuf := Params.chosen.entryBufReset
  favoriteSlots := ⟨⟨1, 0x00⟩, ⟨1, 0x00⟩, ⟨1, 0x00⟩, ⟨1, 0x00⟩⟩
  rowCounter := 0
  lastHeaderPacket := Params.chosen.lastHeaderReset
  halted := false
  haltCause := .none
  buffer := []
  pkt := []
  keys := []
  messages := []
  phase := .packet 0
  turns := []
  answers := []
  draws := 0
  actions := []
  params := Params.chosen

end Sys2Proof.Machine
end

