-- ==== Sys2Proof/Machine/Ops.lean ====
section
/-! DEFINITION. The named operations the meanings share: outcomes, the packet buffer, the row set, the
marker, the renderer's answer, the control port's primitives, `FatalIngest`, reset. -/

namespace Sys2Proof.Machine

/-- Goes on from a next state. -/
def andThen (r : Result) (f : State → Result) : Result :=
  match r with
  | .next s => f s
  | .fault e => .fault e
  | .refused e => .refused e

/-- Changes the next state of an outcome. -/
def mapNext (f : State → State) (r : Result) : Result := andThen r (fun s => .next (f s))

/-- The next state of an outcome, if it has one. -/
def nextState? : Result → Option State
  | .next s => some s
  | .fault _ => none
  | .refused _ => none

/-- While `halted = 1` nothing runs (R204). -/
def whenRunning (s : State) (r : Result) : Result := if s.halted then .fault .halted else r

/-- `emit` of R13: appends an action to the step's list (R141). -/
def emit (a : Action) (s : State) : State := { s with actions := s.actions ++ [a] }

/-- Emits several actions in order. -/
def emitAll (as : List Action) (s : State) : State := { s with actions := s.actions ++ as }

/-! ### The packet buffer -/

/-- Offsets strictly rising and all below 42 (R60). -/
def Memory.wf : Memory → Bool
  | [] => true
  | [c] => decide (c.1 < Config.pktLen)
  | c :: d :: m => decide (c.1 < d.1) && Memory.wf (d :: m)

/-- `MemRead(a, 1)` (R62): the byte listed at an offset. -/
def Memory.read (m : Memory) (a : Nat) : Option Byte :=
  match m with
  | [] => none
  | c :: rest => if c.1 = a then some c.2 else Memory.read rest a

/-- The cells of bytes laid out from an offset. -/
def Memory.layFrom (a : Nat) : List Byte → Memory
  | [] => []
  | b :: bs => (a, b) :: Memory.layFrom (a + 1) bs

/-- The input port fills the buffer with a delivery, offset 0 first (R60). -/
def Memory.fill (d : Delivery) : Memory := Memory.layFrom 0 d.bytes

/-- The bytes of the offsets 0..41 in order, up to the first one not delivered. -/
def Memory.contents (m : Memory) : List Byte :=
  ((List.range Config.pktLen).map m.read).takeWhile Option.isSome |>.filterMap id

/-- The buffer is filled before the step (R60). -/
def fillBuffer (d : Delivery) (s : State) : State := { s with buffer := Memory.fill d }

/-- The buffer is alive for one step only (R31, R60). -/
def releaseBuffer (s : State) : State := { s with buffer := [] }

/-! ### The input port -/

/-- The delivery of length 0: the end of the stream (R120, R204). -/
def endOfStream : Delivery := ⟨[], by simp⟩

/-- The delivery a packet step reads; an exhausted port is the end of the stream (R204; log 13). -/
def nextDelivery (s : State) : Delivery :=
  match s.pkt with
  | [] => endOfStream
  | d :: _ => d

/-- The port after one delivery was read. -/
def dropDelivery (s : State) : State := { s with pkt := s.pkt.tail }

/-- Cuts a stream into deliveries of 42 bytes, `n` of them at most, and a shorter last one (R65, R66). -/
def cutStreamFuel : Nat → List Byte → List Delivery
  | 0, _ => []
  | n + 1, bs =>
    if bs.isEmpty then []
    else ⟨bs.take 42, by simp⟩ :: cutStreamFuel n (bs.drop 42)

/-- Packet `i` of the stream is its bytes `42*i` to `42*i + 41` (R65). -/
def cutStream (bs : List Byte) : List Delivery := cutStreamFuel bs.length bs

/-- The environment puts a stream of bytes on the input port (R65, R187). -/
def loadStream (bs : List Byte) (s : State) : State := { s with pkt := s.pkt ++ cutStream bs }

/-! ### The row set, the marker, the renderer's answer -/

/-- Whether a row is in `rowsSeen` (R30). -/
def isSeen (r : Row) (s : State) : Bool := s.rowsSeen.getLsbD r.toNat

/-- `rowsSeen <- rowsSeen + {row}` (R152). -/
def markSeen (r : Row) (s : State) : State :=
  { s with rowsSeen := s.rowsSeen ||| (1#32 <<< r.toNat) }

/-- The displayable rows 1 to 24 in rising order (R86, D14). -/
def textRows : List Row := (List.range Config.lastTextRow).map (fun k => BitVec.ofNat 5 (k + 1))

/-- The displayable rows not in `rowsSeen`, rising (R147). -/
def unseenRows (s : State) : List Row := textRows.filter (fun r => !isSeen r s)

/-- `elideRow <- v`. -/
def setMarker (v : Row) (s : State) : State := { s with elideRow := v }

/-- `rowCounter <- rowCounter + 1` (R153, D13). -/
def countRow (s : State) : State := { s with rowCounter := s.rowCounter + 1 }

/-- `answer(PaintRow)` (R153): the scripted answer, else a free value (log 9). -/
def nextAnswer (s : State) : Bool :=
  match s.answers with
  | [] => Config.freeAnswer s.draws
  | a :: _ => a

/-- The environment after the answer was given. -/
def dropAnswer (s : State) : State :=
  match s.answers with
  | [] => { s with draws := s.draws + 1 }
  | _ :: rest => { s with answers := rest }

/-! ### Halting -/

/-- The numbers of R203. -/
def HaltCause.code : HaltCause → BitVec 2
  | .none => 0
  | .shortPacket => 1
  | .quit => 2
  | .int => 3

/-- `halted <- 1; haltCause <- cause`. -/
def haltWith (cause : HaltCause) (s : State) : State := { s with halted := true, haltCause := cause }

/-- `raise FatalIngest` (R201): the exception's entry; nothing is saved and nothing returns (R207).
Whether `Cleanup` follows is left open (U6; log 10). -/
def raiseFatalIngest (s : State) : State :=
  emitAll (if Config.cleanupAfterFatal then [.cleanup] else [])
    (haltWith .shortPacket (emit .logFatal s))

/-- `HALT(cause)` (R174). -/
def halt (cause : HaltCause) (s : State) : State := emit .cleanup (haltWith cause s)

/-! ### Tuning -/

/-- The three writes of `SET_TUNE` (R171). -/
def tune (mag : Magazine) (page : Page) (s : State) : State :=
  { s with currentMag := mag, currentPage := page, seeking := true }

/-- A magazine is in 1..8 (R171). -/
def legalMagazine (mag : Magazine) : Bool := decide (1#4 ≤ mag) && decide (mag ≤ 8#4)

/-- `SET_TUNE(mag, page)` (R171); a magazine outside 1..8 is refused (D12). -/
def setTune (mag : Magazine) (page : Page) (s : State) : Result :=
  if legalMagazine mag then .next (tune mag page s) else .refused .magazineOutOfRange

/-- `FAV_MAG(slot)`, `FAV_PAGE(slot)` (R177). -/
def favourite (f : Favourites) (slot : Fin 4) : PageId :=
  match slot with
  | 0 => f.slot0
  | 1 => f.slot1
  | 2 => f.slot2
  | 3 => f.slot3

/-- The push of R178: the oldest character drops. -/
def pushDigit (c : Byte) (s : State) : State :=
  { s with entryBuf := ⟨s.entryBuf.c1, s.entryBuf.c2, c⟩ }

/-- `entryBuf[0]` in '1'..'8' (R178). -/
def frontTunes (b : EntryBuf) : Bool := decide (0x31#8 ≤ b.c0) && decide (b.c0 ≤ 0x38#8)

/-- The magazine of the front character (R178). -/
def entryMagazine (b : EntryBuf) : Magazine := (b.c0 - 0x30#8).setWidth 4

/-- The two other characters read as a hexadecimal number (R178). -/
def entryPage (b : EntryBuf) : Page := (b.c1 - 0x30#8) * 16#8 + (b.c2 - 0x30#8)

/-! ### Reset -/

/-- `Reset(INIT_MAG, INIT_PAGE)` (R231, R232): every register of R21, R22 and R23 gets its reset value
and no action is emitted; `favoriteSlots` is not the block's to reset (R21). -/
def resetBlock (initMag initPage : Nat) (s : State) : Result :=
  if initMag ≤ 8 ∧ initPage ≤ 0xFF then
    .next { s with
      currentMag := if initMag = 0 then 1 else BitVec.ofNat 4 initMag
      currentPage := BitVec.ofNat 8 initPage
      capturing := false
      wasCapturing := false
      seeking := true
      lastSubcode := s.params.lastSubcodeReset
      rowsSeen := 0
      elideRow := 0
      holdMode := false
      revealMode := false
      suppressHeader := false
      entryBuf := s.params.entryBufReset
      rowCounter := 0
      lastHeaderPacket := s.params.lastHeaderReset
      halted := false
      haltCause := .none
      buffer := []
      phase := .packet 0
      actions := [] }
  else .refused .resetParameterOutOfRange

end Sys2Proof.Machine
end

