-- ==== Sys2Proof/Machine/Flags.lean ====
section
/-! DEFINITION. What sets and clears the six one-bit registers (R26). None is a condition code. -/

namespace Sys2Proof.Machine

/-- `capturing <- (page == currentPage)` (R145): recomputed at every header that is not held. -/
def recomputeCapturing (p : Packet) (s : State) : State :=
  { s with capturing := decide (decodePageNumber p = s.currentPage) }

/-- `wasCapturing <- v` (R146, R147). -/
def setWasCapturing (v : Bool) (s : State) : State := { s with wasCapturing := v }

/-- `seeking <- false` (R146). -/
def clearSeeking (s : State) : State := { s with seeking := false }

/-- `suppressHeader <- v` (R146, R148). -/
def setSuppress (v : Bool) (s : State) : State := { s with suppressHeader := v }

/-- `TOGGLE_HOLD` (R172). -/
def toggleHold (s : State) : State := { s with holdMode := !s.holdMode }

/-- `TOGGLE_REVEAL` (R173). -/
def toggleReveal (s : State) : State := emit .toggleReveal { s with revealMode := !s.revealMode }

end Sys2Proof.Machine
end

