-- ==== Sys2Proof/Machine/Commands.lean ====
section
/-! DEFINITION. The control port's primitives (R170) and the meanings of the host commands (R175 to R180). -/

namespace Sys2Proof.Machine

/-- A primitive of the control port issued by the host (R170, R187). -/
def execPrimitive (p : Primitive) (s : State) : Result :=
  whenRunning s
    (match p with
     | .setTune mag page => setTune mag page s
     | .toggleHold => .next (toggleHold s)
     | .toggleReveal => .next (toggleReveal s)
     | .haltQuit => .next (halt .quit s)
     | .haltInt => .next (halt .int s))

/-- `Digit(c)` (R178). -/
def digitStep (c : Byte) (s : State) : Result :=
  let s := pushDigit c s
  if frontTunes s.entryBuf then
    mapNext (emit (.echoTypingHeader s.entryBuf))
      (setTune (entryMagazine s.entryBuf) (entryPage s.entryBuf) s)
  else .next s

/-- `Fav(c)` for a key of a slot (R177). -/
def favouriteStep (slot : Fin 4) (s : State) : Result :=
  let f := favourite s.favoriteSlots slot
  mapNext (emit .rendererClear) (setTune f.mag f.page s)

/-- `HOLD` (R176). -/
def execHold (s : State) : Result := whenRunning s (.next (toggleHold s))

/-- `REVEAL` (R179). -/
def execReveal (s : State) : Result := whenRunning s (.next (toggleReveal s))

/-- `QUIT` (R180). -/
def execQuit (s : State) : Result := whenRunning s (.next (halt .quit s))

/-- `QUIT_ESC` (R180): as `QUIT`. -/
def execQuitEsc (s : State) : Result := whenRunning s (.next (halt .quit s))

/-- `DIGIT0` (R178). -/
def execDigit0 (s : State) : Result := whenRunning s (digitStep 0x30#8 s)

/-- `DIGIT1` (R178). -/
def execDigit1 (s : State) : Result := whenRunning s (digitStep 0x31#8 s)

/-- `DIGIT2` (R178). -/
def execDigit2 (s : State) : Result := whenRunning s (digitStep 0x32#8 s)

/-- `DIGIT3` (R178). -/
def execDigit3 (s : State) : Result := whenRunning s (digitStep 0x33#8 s)

/-- `DIGIT4` (R178). -/
def execDigit4 (s : State) : Result := whenRunning s (digitStep 0x34#8 s)

/-- `DIGIT5` (R178). -/
def execDigit5 (s : State) : Result := whenRunning s (digitStep 0x35#8 s)

/-- `DIGIT6` (R178). -/
def execDigit6 (s : State) : Result := whenRunning s (digitStep 0x36#8 s)

/-- `DIGIT7` (R178). -/
def execDigit7 (s : State) : Result := whenRunning s (digitStep 0x37#8 s)

/-- `DIGIT8` (R178). -/
def execDigit8 (s : State) : Result := whenRunning s (digitStep 0x38#8 s)

/-- `DIGIT9` (R178). -/
def execDigit9 (s : State) : Result := whenRunning s (digitStep 0x39#8 s)

/-- `FAV0` (R177): the two keys of the slot act alike. -/
def execFav0 (_second : Bool) (s : State) : Result := whenRunning s (favouriteStep 0 s)

/-- `FAV1` (R177): the two keys of the slot act alike. -/
def execFav1 (_second : Bool) (s : State) : Result := whenRunning s (favouriteStep 1 s)

/-- `FAV2` (R177): the two keys of the slot act alike. -/
def execFav2 (_second : Bool) (s : State) : Result := whenRunning s (favouriteStep 2 s)

/-- `FAV3` (R177): the two keys of the slot act alike. -/
def execFav3 (_second : Bool) (s : State) : Result := whenRunning s (favouriteStep 3 s)

/-- `NOCMD` (R175): nothing changes and nothing is emitted. -/
def execNocmd (_c : Option Byte) (s : State) : Result := whenRunning s (.next s)

end Sys2Proof.Machine
end

