-- ==== Sys2Proof/Machine/Engine.lean ====
section
/-! DEFINITION. The packet step's front (R121) and the engine's two transitions (R142, R150). -/

namespace Sys2Proof.Machine

/-- The packet step from the magazine filter on (R121, R123): a packet of another magazine is dropped. -/
def packetStep (p : Packet) (engine : State → State) (s : State) : Result :=
  whenRunning s (if magazineOf p = s.currentMag then .next (engine s) else .next s)

/-- A new subpage (R146): the renderer is cleared, the row set emptied, the subcode remembered. -/
def newSubpage (sub : Subcode) (s : State) : State :=
  { emit .rendererClear s with rowsSeen := 0, lastSubcode := sub }

/-- Step 5 (R146): the header matches the tuned page. -/
def headerMatched (p : Packet) (s : State) : State :=
  let sub := decodeSubcode p
  let s := { s with rowCounter := 0, lastHeaderPacket := p }
  let s := setSuppress (decodeControlFlag p) (clearSeeking s)
  let s := if sub = s.lastSubcode then s else newSubpage sub s
  setWasCapturing true s

/-- Step 6 (R147): the header does not match; at the end of a cycle the unseen rows are blanked. -/
def headerMissed (s : State) : State :=
  if s.wasCapturing then
    setWasCapturing false { emitAll ((unseenRows s).map .blankRow) s with rowsSeen := 0 }
  else s

/-- Step 7 (R148). -/
def headerSeeking (s : State) : State :=
  if s.seeking then emit .colorReset (setSuppress false s) else s

/-- Step 8 (R149): the header line is painted with the tuned magazine and page. -/
def paintHeader (p : Packet) (s : State) : State :=
  emit (.paintHeader p s.currentMag s.currentPage s.seeking s.suppressHeader) s

/-- Steps 3 to 8 of the header transition, hold off (R145 to R149). -/
def headerLive (p : Packet) (s : State) : State :=
  let s := recomputeCapturing p s
  let s := if s.capturing then headerMatched p s else headerMissed s
  paintHeader p (headerSeeking s)

/-- `HeaderStep(P)` (R142): the marker is cleared (R143), then hold is tested (R144). -/
def headerStep (p : Packet) (s : State) : State :=
  let s := setMarker 0 s
  if s.holdMode then emit (.paintHoldHeader p) s else headerLive p s

/-- The paint call and its answer (R153). -/
def paintText (p : Packet) (row : Row) (s : State) : State :=
  let skip := nextAnswer s
  let s := dropAnswer (emit (.paintRow p row) s)
  countRow (setMarker (if skip then row + 1#5 else s.elideRow) s)

/-- What a captured row does by its class (R152 to R157). -/
def captureRow (p : Packet) (row : Row) (s : State) : State :=
  let s := markSeen row s
  let s := if row.toNat ≤ Config.lastTextRow then paintText p row s else s
  let s := if row = 26#5 ∨ row = 28#5 then emit (.metaDecode p row) s else s
  if row = 27#5 then emit (.linkDecode p) s else s

/-- `RowStep(P, row)` (R150): the elision test first (R151), then the capture gate (R152). -/
def rowStep (p : Packet) (row : Row) (s : State) : State :=
  if s.elideRow = row then setMarker 0 (emit .idlePump s)
  else if s.capturing then captureRow p row s
  else s

end Sys2Proof.Machine
end

