-- ==== Sys2Proof/Machine/HeaderRow.lean ====
section
/-! DEFINITION. The meanings of the header packet `HDR`. -/

namespace Sys2Proof.Machine

/-- `HDR` (R142): the header transition behind the front of R121. -/
def execHdr (p : Packet) (s : State) : Result := packetStep p (headerStep p) s

end Sys2Proof.Machine
end

