-- ==== Sys2Proof/Machine/OtherRows.lean ====
section
/-! DEFINITION. The meanings of the enhancement, link and ignored rows (R155 to R157). -/

namespace Sys2Proof.Machine

/-- `IGN25` (R157). -/
def execIgn25 (p : Packet) (s : State) : Result := packetStep p (rowStep p 25#5) s

/-- `META26` (R155). -/
def execMeta26 (p : Packet) (s : State) : Result := packetStep p (rowStep p 26#5) s

/-- `LINK27` (R156). -/
def execLink27 (p : Packet) (s : State) : Result := packetStep p (rowStep p 27#5) s

/-- `META28` (R155). -/
def execMeta28 (p : Packet) (s : State) : Result := packetStep p (rowStep p 28#5) s

/-- `IGN29` (R157). -/
def execIgn29 (p : Packet) (s : State) : Result := packetStep p (rowStep p 29#5) s

/-- `IGN30` (R157). -/
def execIgn30 (p : Packet) (s : State) : Result := packetStep p (rowStep p 30#5) s

/-- `IGN31` (R157). -/
def execIgn31 (p : Packet) (s : State) : Result := packetStep p (rowStep p 31#5) s

end Sys2Proof.Machine
end

