-- ==== Sys2Proof/Machine/TextRows.lean ====
section
/-! DEFINITION. The meanings of the displayable text rows `ROW1` .. `ROW24` (R154). -/

namespace Sys2Proof.Machine

/-- `ROW1` (R154). -/
def execRow1 (p : Packet) (s : State) : Result := packetStep p (rowStep p 1#5) s

/-- `ROW2` (R154). -/
def execRow2 (p : Packet) (s : State) : Result := packetStep p (rowStep p 2#5) s

/-- `ROW3` (R154). -/
def execRow3 (p : Packet) (s : State) : Result := packetStep p (rowStep p 3#5) s

/-- `ROW4` (R154). -/
def execRow4 (p : Packet) (s : State) : Result := packetStep p (rowStep p 4#5) s

/-- `ROW5` (R154). -/
def execRow5 (p : Packet) (s : State) : Result := packetStep p (rowStep p 5#5) s

/-- `ROW6` (R154). -/
def execRow6 (p : Packet) (s : State) : Result := packetStep p (rowStep p 6#5) s

/-- `ROW7` (R154). -/
def execRow7 (p : Packet) (s : State) : Result := packetStep p (rowStep p 7#5) s

/-- `ROW8` (R154). -/
def execRow8 (p : Packet) (s : State) : Result := packetStep p (rowStep p 8#5) s

/-- `ROW9` (R154). -/
def execRow9 (p : Packet) (s : State) : Result := packetStep p (rowStep p 9#5) s

/-- `ROW10` (R154). -/
def execRow10 (p : Packet) (s : State) : Result := packetStep p (rowStep p 10#5) s

/-- `ROW11` (R154). -/
def execRow11 (p : Packet) (s : State) : Result := packetStep p (rowStep p 11#5) s

/-- `ROW12` (R154). -/
def execRow12 (p : Packet) (s : State) : Result := packetStep p (rowStep p 12#5) s

/-- `ROW13` (R154). -/
def execRow13 (p : Packet) (s : State) : Result := packetStep p (rowStep p 13#5) s

/-- `ROW14` (R154). -/
def execRow14 (p : Packet) (s : State) : Result := packetStep p (rowStep p 14#5) s

/-- `ROW15` (R154). -/
def execRow15 (p : Packet) (s : State) : Result := packetStep p (rowStep p 15#5) s

/-- `ROW16` (R154). -/
def execRow16 (p : Packet) (s : State) : Result := packetStep p (rowStep p 16#5) s

/-- `ROW17` (R154). -/
def execRow17 (p : Packet) (s : State) : Result := packetStep p (rowStep p 17#5) s

/-- `ROW18` (R154). -/
def execRow18 (p : Packet) (s : State) : Result := packetStep p (rowStep p 18#5) s

/-- `ROW19` (R154). -/
def execRow19 (p : Packet) (s : State) : Result := packetStep p (rowStep p 19#5) s

/-- `ROW20` (R154). -/
def execRow20 (p : Packet) (s : State) : Result := packetStep p (rowStep p 20#5) s

/-- `ROW21` (R154). -/
def execRow21 (p : Packet) (s : State) : Result := packetStep p (rowStep p 21#5) s

/-- `ROW22` (R154). -/
def execRow22 (p : Packet) (s : State) : Result := packetStep p (rowStep p 22#5) s

/-- `ROW23` (R154). -/
def execRow23 (p : Packet) (s : State) : Result := packetStep p (rowStep p 23#5) s

/-- `ROW24` (R154). -/
def execRow24 (p : Packet) (s : State) : Result := packetStep p (rowStep p 24#5) s

end Sys2Proof.Machine
end

