-- ==== Sys2Proof/Machine/Dispatch.lean ====
section
/-! DEFINITION. One arm per instruction. -/

namespace Sys2Proof.Machine

def exec (i : Instr) (s : State) : Host.Outcome State Fault Refusal :=
  match i with
  | .hdr p => Sys2Proof.Machine.execHdr p s
  | .row1 p => Sys2Proof.Machine.execRow1 p s
  | .row2 p => Sys2Proof.Machine.execRow2 p s
  | .row3 p => Sys2Proof.Machine.execRow3 p s
  | .row4 p => Sys2Proof.Machine.execRow4 p s
  | .row5 p => Sys2Proof.Machine.execRow5 p s
  | .row6 p => Sys2Proof.Machine.execRow6 p s
  | .row7 p => Sys2Proof.Machine.execRow7 p s
  | .row8 p => Sys2Proof.Machine.execRow8 p s
  | .row9 p => Sys2Proof.Machine.execRow9 p s
  | .row10 p => Sys2Proof.Machine.execRow10 p s
  | .row11 p => Sys2Proof.Machine.execRow11 p s
  | .row12 p => Sys2Proof.Machine.execRow12 p s
  | .row13 p => Sys2Proof.Machine.execRow13 p s
  | .row14 p => Sys2Proof.Machine.execRow14 p s
  | .row15 p => Sys2Proof.Machine.execRow15 p s
  | .row16 p => Sys2Proof.Machine.execRow16 p s
  | .row17 p => Sys2Proof.Machine.execRow17 p s
  | .row18 p => Sys2Proof.Machine.execRow18 p s
  | .row19 p => Sys2Proof.Machine.execRow19 p s
  | .row20 p => Sys2Proof.Machine.execRow20 p s
  | .row21 p => Sys2Proof.Machine.execRow21 p s
  | .row22 p => Sys2Proof.Machine.execRow22 p s
  | .row23 p => Sys2Proof.Machine.execRow23 p s
  | .row24 p => Sys2Proof.Machine.execRow24 p s
  | .ign25 p => Sys2Proof.Machine.execIgn25 p s
  | .meta26 p => Sys2Proof.Machine.execMeta26 p s
  | .link27 p => Sys2Proof.Machine.execLink27 p s
  | .meta28 p => Sys2Proof.Machine.execMeta28 p s
  | .ign29 p => Sys2Proof.Machine.execIgn29 p s
  | .ign30 p => Sys2Proof.Machine.execIgn30 p s
  | .ign31 p => Sys2Proof.Machine.execIgn31 p s
  | .hold => Sys2Proof.Machine.execHold s
  | .reveal => Sys2Proof.Machine.execReveal s
  | .quit => Sys2Proof.Machine.execQuit s
  | .quitEsc => Sys2Proof.Machine.execQuitEsc s
  | .digit0 => Sys2Proof.Machine.execDigit0 s
  | .digit1 => Sys2Proof.Machine.execDigit1 s
  | .digit2 => Sys2Proof.Machine.execDigit2 s
  | .digit3 => Sys2Proof.Machine.execDigit3 s
  | .digit4 => Sys2Proof.Machine.execDigit4 s
  | .digit5 => Sys2Proof.Machine.execDigit5 s
  | .digit6 => Sys2Proof.Machine.execDigit6 s
  | .digit7 => Sys2Proof.Machine.execDigit7 s
  | .digit8 => Sys2Proof.Machine.execDigit8 s
  | .digit9 => Sys2Proof.Machine.execDigit9 s
  | .fav0 b => Sys2Proof.Machine.execFav0 b s
  | .fav1 b => Sys2Proof.Machine.execFav1 b s
  | .fav2 b => Sys2Proof.Machine.execFav2 b s
  | .fav3 b => Sys2Proof.Machine.execFav3 b s
  | .nocmd c => Sys2Proof.Machine.execNocmd c s

end Sys2Proof.Machine
end

