-- ==== Sys2Proof/Machine/Turns.lean ====
section
/-! DEFINITION. How a port is served: the schedule (R184, R185), the fetch of a delivery (R121, R122), the
key poll (R182), the control channel (R183). -/

namespace Sys2Proof.Machine

/-- The next place in the Ingest Loop's cycle (R184). -/
def nextPhase : LoopPhase → LoopPhase
  | .packet k => if h : k.val + 1 < Config.batch then .packet ⟨k.val + 1, h⟩ else .key
  | .key => .message
  | .message => .packet 0

/-- The port the loop serves at a place of its cycle (R184). -/
def phaseTurn : LoopPhase → Turn
  | .packet _ => .packet
  | .key => .key
  | .message => .message

/-- What happens next: what the environment does ahead of the loop (R185), else the loop's own turn
(R184; log 12). -/
def nextTurn (s : State) : Turn :=
  match s.turns with
  | [] => phaseTurn s.phase
  | t :: _ => t

/-- A step begins: its turn is taken and its action list is empty (R141). -/
def beginStep (s : State) : State :=
  match s.turns with
  | [] => { s with phase := nextPhase s.phase, actions := [] }
  | _ :: ts => { s with turns := ts, actions := [] }

/-- The packet step (R121): the port fills the buffer, a delivery shorter than 42 bytes is fatal before
any byte is decoded (R122), a packet runs as the instruction of its row. -/
def servePacket (s : State) : Result :=
  let s := fillBuffer (nextDelivery s) (dropDelivery s)
  match decode s.params.favKeys (.packet s.buffer.contents) with
  | .ok i => mapNext releaseBuffer (exec i s)
  | .error _ => .next (releaseBuffer (raiseFatalIngest s))

/-- The interpreter on one input (R181). -/
def interpret (c : Option Byte) (s : State) : Result := exec (decodeCommand s.params.favKeys c) s

/-- The key poll (R182): no key is the empty input. -/
def serveKey (s : State) : Result :=
  interpret s.keys.head?.join { s with keys := s.keys.tail }

/-- `emit Ack` after a message (R183); after one that quits it is left open (U7; log 11). -/
def acknowledge (s : State) : State :=
  emitAll (if s.halted && !Config.ackAfterQuit then [] else [.ack]) s

/-- The poll of the control channel (R183): no message is no event (R208), a message of at most one
character is interpreted and acknowledged, a longer one is refused (D20). Characters are counted as codes
0..255, one list entry each, however many bytes UTF-8 gives them (DESIGN CHOICE, log 38). -/
def serveMessage (s : State) : Result :=
  let t := { s with messages := s.messages.tail }
  match s.messages.head?.join with
  | none => .next t
  | some [] => mapNext acknowledge (interpret none t)
  | some [c] => mapNext acknowledge (interpret (some c) t)
  | some (_ :: _ :: _) => .refused .controlMessageTooLong

/-- One turn. Only reset is taken while halted (R204, R230). -/
def serve (t : Turn) (s : State) : Result :=
  match t with
  | .packet => whenRunning s (servePacket s)
  | .key => whenRunning s (serveKey s)
  | .message => whenRunning s (serveMessage s)
  | .primitive p => execPrimitive p s
  | .interrupt => execPrimitive .haltInt s
  | .favourites f => whenRunning s (.next { s with favoriteSlots := f })
  | .reset m p => resetBlock m p s

/-- The delivery that holds the word of an instruction of the opcode table. -/
def deliveryOfWord (nbits w : Nat) : Delivery :=
  ⟨(packetOfWord nbits w).bytes, Nat.le_of_eq (packetOfWord nbits w).len_eq⟩

/-- The environment offers one instruction of the opcode table at once: a packet on the input port, or
a character to the key poll, and that port's turn (log 28). -/
def offerWord (s : State) (nbits w : Nat) : State :=
  match wireOfWord nbits w with
  | .packet _ => { s with pkt := deliveryOfWord nbits w :: s.pkt, turns := .packet :: s.turns }
  | .command c => { s with keys := c :: s.keys, turns := .key :: s.turns }

end Sys2Proof.Machine
end

