-- ==== Sys2Proof/Machine/Step.lean ====
section
/-! DEFINITION. One step of the machine (R69): one turn. -/

namespace Sys2Proof.Machine

/-- One step: the next turn is served, from an empty action list. -/
def step (s : State) : Host.Outcome State Fault Refusal :=
  serve (nextTurn s) (beginStep s)

/-- The state whose very next step runs the instruction of a word of the opcode table (log 28). -/
def State.withFetchWord (s : State) (nbits w : Nat) : State := offerWord s nbits w

end Sys2Proof.Machine
end

