-- ==== Sys2Proof/Safety.lean ====
section
/-! DEFINITION. What a safe run keeps: the invariant of the registers, who may write what (R209), and when
two states or two results look alike from outside. -/

namespace Sys2Proof.Machine

/-- What holds after reset and after every step (R27, R34, R158, `95_test_vectors.md` part 5). -/
structure Inv (s : State) : Prop where
  /-- `currentMag` in 1..8 (R34). -/
  magazine : legalMagazine s.currentMag = true
  /-- `elideRow` is 0 or in 2..25 (R34). -/
  marker : s.elideRow = 0#5 ∨ (2 ≤ s.elideRow.toNat ∧ s.elideRow.toNat ≤ 25)
  /-- `rowsSeen[0] = 0` (R34). -/
  noHeaderRow : s.rowsSeen.getLsbD 0 = false
  /-- Every character of `entryBuf` is a decimal digit (R34). -/
  entryDigits : s.entryBuf.wf = true
  /-- The pair (`capturing`, `wasCapturing`) is (0,0) or (1,1) (R27). -/
  twoStates : s.capturing = s.wasCapturing
  /-- A pending marker implies `capturing` (R158). -/
  markerCapturing : s.elideRow ≠ 0#5 → s.capturing = true
  /-- The row set is empty outside a capture. -/
  idleSeen : s.wasCapturing = false → s.rowsSeen = 0#32
  /-- `halted` and `haltCause` agree (R203). -/
  haltCause : s.halted = true ↔ s.haltCause ≠ .none
  /-- The packet buffer is alive for one step only (R31). -/
  bufferReleased : s.buffer = []
  /-- The parameters lie in their domain (R9). -/
  params : s.params.wf = true

/-- What the engine never writes (R209): the tuning target, hold and reveal, the entry buffer, the
favourites, the halt registers; nor the packet buffer, nor what the environment has in store, the
renderer's answers apart. -/
structure EngineFrame (s t : State) : Prop where
  currentMag : t.currentMag = s.currentMag
  currentPage : t.currentPage = s.currentPage
  holdMode : t.holdMode = s.holdMode
  revealMode : t.revealMode = s.revealMode
  entryBuf : t.entryBuf = s.entryBuf
  favoriteSlots : t.favoriteSlots = s.favoriteSlots
  halted : t.halted = s.halted
  haltCause : t.haltCause = s.haltCause
  buffer : ∀ a, t.buffer.read a = s.buffer.read a
  pkt : t.pkt = s.pkt
  keys : t.keys = s.keys
  messages : t.messages = s.messages
  phase : t.phase = s.phase
  turns : t.turns = s.turns
  params : t.params = s.params

/-- What the row transition leaves alone besides (R150: it writes `elideRow`, `rowsSeen`, `rowCounter`). -/
structure RowFrame (s t : State) : Prop where
  engine : EngineFrame s t
  capturing : t.capturing = s.capturing
  wasCapturing : t.wasCapturing = s.wasCapturing
  seeking : t.seeking = s.seeking
  lastSubcode : t.lastSubcode = s.lastSubcode
  suppressHeader : t.suppressHeader = s.suppressHeader
  lastHeaderPacket : t.lastHeaderPacket = s.lastHeaderPacket

/-- What the interpreter and the primitives never touch (R170), nor the packet buffer, the favourites,
what the environment has in store. -/
structure CommandFrame (s t : State) : Prop where
  capturing : t.capturing = s.capturing
  wasCapturing : t.wasCapturing = s.wasCapturing
  lastSubcode : t.lastSubcode = s.lastSubcode
  rowsSeen : t.rowsSeen = s.rowsSeen
  elideRow : t.elideRow = s.elideRow
  rowCounter : t.rowCounter = s.rowCounter
  suppressHeader : t.suppressHeader = s.suppressHeader
  lastHeaderPacket : t.lastHeaderPacket = s.lastHeaderPacket
  favoriteSlots : t.favoriteSlots = s.favoriteSlots
  buffer : ∀ a, t.buffer.read a = s.buffer.read a
  pkt : t.pkt = s.pkt
  keys : t.keys = s.keys
  messages : t.messages = s.messages
  phase : t.phase = s.phase
  turns : t.turns = s.turns
  answers : t.answers = s.answers
  draws : t.draws = s.draws
  params : t.params = s.params

/-- Two states that differ at most in the registers nothing reads: `rowCounter`, `lastHeaderPacket`
(R22) and `revealMode` (R28). -/
def SameButUnread (s t : State) : Prop :=
  { t with
    rowCounter := s.rowCounter
    lastHeaderPacket := s.lastHeaderPacket
    revealMode := s.revealMode } = s

/-- Two results of one kind whose next states are related. -/
def ResultsRelated (R : State → State → Prop) : Result → Result → Prop
  | .next s, .next t => R s t
  | .fault e, .fault f => e = f
  | .refused e, .refused f => e = f
  | _, _ => False

/-- An action without the packet it carries. -/
def withoutPacket : Action → Action
  | .paintHeader _ m pg sk sp => .paintHeader Packet.zero m pg sk sp
  | .paintHoldHeader _ => .paintHoldHeader Packet.zero
  | .paintRow _ r => .paintRow Packet.zero r
  | .metaDecode _ r => .metaDecode Packet.zero r
  | .linkDecode _ => .linkDecode Packet.zero
  | .blankRow r => .blankRow r
  | .rendererClear => .rendererClear
  | .idlePump => .idlePump
  | .colorReset => .colorReset
  | .toggleReveal => .toggleReveal
  | .echoTypingHeader b => .echoTypingHeader b
  | .logFatal => .logFatal
  | .cleanup => .cleanup
  | .ack => .ack

/-- Two states that differ at most in the packets they remember, forward or hold in the packet buffer. -/
def SameButPackets (s t : State) : Prop :=
  { t with lastHeaderPacket := s.lastHeaderPacket, actions := s.actions, buffer := s.buffer } = s ∧
    t.actions.map withoutPacket = s.actions.map withoutPacket

/-- Two packets whose read bits agree (R61, R83): the nibbles of the offsets 0 to 4 and 6, the low three
bits of the nibble at 5, the low two at 7, the lowest at 8. -/
structure SameReadBits (p q : Packet) : Prop where
  mrag0 : decodeField (byteAt p 0) = decodeField (byteAt q 0)
  mrag1 : decodeField (byteAt p 1) = decodeField (byteAt q 1)
  pageUnits : decodeField (byteAt p 2) = decodeField (byteAt q 2)
  pageTens : decodeField (byteAt p 3) = decodeField (byteAt q 3)
  f1 : decodeField (byteAt p 4) = decodeField (byteAt q 4)
  f2 : decodeField (byteAt p 5) &&& 7#4 = decodeField (byteAt q 5) &&& 7#4
  f3 : decodeField (byteAt p 6) = decodeField (byteAt q 6)
  f4 : decodeField (byteAt p 7) &&& 3#4 = decodeField (byteAt q 7) &&& 3#4
  ctl : decodeField (byteAt p 8) &&& 1#4 = decodeField (byteAt q 8) &&& 1#4

/-- The ten digit commands with their characters (R88, R178). -/
def digitCommands : List (Instr × Byte) :=
  [(.digit0, 0x30), (.digit1, 0x31), (.digit2, 0x32), (.digit3, 0x33), (.digit4, 0x34),
   (.digit5, 0x35), (.digit6, 0x36), (.digit7, 0x37), (.digit8, 0x38), (.digit9, 0x39)]

/-- A packet instruction runs on a state: the block is not halted and the packet is of the tuned
magazine (R121, R123). -/
structure Accepts (s : State) (p : Packet) : Prop where
  running : s.halted = false
  magazine : magazineOf p = s.currentMag

end Sys2Proof.Machine
end

