-- ==== Sys2Proof/Certificates/Slice0/Obligations.lean ====
section
/-! DEFINITION. The statements for the provers. Each docstring names the rule it formalises; a statement
that rests on a decision or an inference the spec marks as its own says so. -/

open Sys2Proof Sys2Proof.Machine

/-! ### The Field Decoder and the encodings -/

/-- R100 with the bit order of decision D2 (the spec's own choice, log 27): bit `k` of the nibble is bit
`2k+1` of the byte. -/
def Obligations.DecodeFieldReadsOddBits : Prop :=
  ∀ (b : Byte) (k : Nat), k < 4 → (decodeField b).getLsbD k = b.getLsbD (2 * k + 1)

/-- R101: check bits never matter, and each nibble has exactly the sixteen bytes `E0(n)` with any subset
of 0x55. -/
def Obligations.DecodeFieldIgnoresCheckBits : Prop :=
  (∀ b : Byte, decodeField b = decodeField (b &&& 0xAA#8)) ∧
  (∀ (b : Byte) (j : Nat), j < 4 → decodeField (b ^^^ (1#8 <<< (2 * j))) = decodeField b) ∧
  (∀ (b : Byte) (n : Nibble), decodeField b = n ↔ ∃ m : Byte, b = E0 n ||| (m &&& 0x55#8)) ∧
  (∀ n : Nibble,
    ((List.range 256).filter (fun k => decide (decodeField (BitVec.ofNat 8 k) = n))).length = 16)

/-- R103: the magazine is `rowlsb mod 8` with 0 read as 8, the row is twice the second nibble plus bit 3
of `rowlsb`. -/
def Obligations.AddressSplitsIntoMagazineAndRow : Prop :=
  ∀ b0 b1 : Byte,
    (decodeAddress b0 b1).1.toNat =
      (if (decodeField b0).toNat % 8 = 0 then 8 else (decodeField b0).toNat % 8) ∧
    (decodeAddress b0 b1).2.toNat =
      2 * (decodeField b1).toNat + (if (decodeField b0).getLsbD 3 then 1 else 0)

/-- R106: a bijection from the eight data bits of the address bytes to the 256 (magazine, row) pairs. -/
def Obligations.AddressIsBijectionOnDataBits : Prop :=
  (∀ b0 b1 : Byte, legalMagazine (decodeAddress b0 b1).1 = true) ∧
  (∀ (m : Magazine) (r : Row), legalMagazine m = true →
    ∃ n0 n1 : Nibble, ∀ b0 b1 : Byte,
      decodeAddress b0 b1 = (m, r) ↔ (decodeField b0 = n0 ∧ decodeField b1 = n1))

/-- R107: tens from offset 3, units from offset 2, `tens*16 + units`. -/
def Obligations.PageNumberIsTensAndUnits : Prop :=
  ∀ p : Packet, (decodePageNumber p).toNat =
    (decodeField (byteAt p 3)).toNat * 16 + (decodeField (byteAt p 2)).toNat

/-- R109 with the field order of decision D3 (the spec's own choice, log 27), and R110: four fields of 4,
3, 4 and 2 bits; the masked bits do not matter. -/
def Obligations.SubcodeIsFourMaskedFields : Prop :=
  ∀ p : Packet, (decodeSubcode p).toNat =
    ((decodeField (byteAt p 7)).toNat % 4) * 2048 + (decodeField (byteAt p 6)).toNat * 128 +
      ((decodeField (byteAt p 5)).toNat % 8) * 16 + (decodeField (byteAt p 4)).toNat

/-- R111: the control flag is bit 0 of the nibble at offset 8, which is bit 1 of the byte. -/
def Obligations.ControlFlagIsBitOneOfOffsetEight : Prop :=
  ∀ p : Packet, decodeControlFlag p = (decodeField (byteAt p 8)).getLsbD 0 ∧
    decodeControlFlag p = decide (byteAt p 8 &&& 0x02#8 ≠ 0#8)

/-- R91 (derived there from R81 and R85): with `E0`, with `EH`, with any coding of nibbles that
`decodeField` undoes, the reference encoder's packets decode to the magazine, row, page, subcode and flag
they were built from. -/
def Obligations.ReferenceEncoderIsUndone : Prop :=
  (∀ n : Nibble, decodeField (E0 n) = n ∧ decodeField (EH n) = n) ∧
  (∀ E : Nibble → Byte, (∀ n, decodeField (E n) = n) →
    (∀ (m : Magazine) (r : Row), legalMagazine m = true →
      magazineOf (refRow E m r) = m ∧ decodePacket (refRow E m r) = instrOfRow r (refRow E m r)) ∧
    (∀ (m : Magazine) (page : Page) (sub : Subcode) (ctl : Bool), legalMagazine m = true →
      decodePacket (refHeader E m page sub ctl) = .hdr (refHeader E m page sub ctl) ∧
      magazineOf (refHeader E m page sub ctl) = m ∧
      decodePageNumber (refHeader E m page sub ctl) = page ∧
      decodeSubcode (refHeader E m page sub ctl) = sub ∧
      decodeControlFlag (refHeader E m page sub ctl) = ctl))

/-- Decode and encode agree: under a key table in its domain (R9), decoding what a well-formed
instruction is encoded to gives the instruction back, with every operand. -/
def Obligations.DecodeUndoesEncode : Prop :=
  ∀ (keys : FavKeys) (i : Instr), keys.wf = true → i.wf keys = true →
    decode keys (encode keys i) = .ok i

/-- Each packet and each command input has one meaning, well formed, whose encoding is the input. -/
def Obligations.EncodeUndoesDecode : Prop :=
  ∀ keys : FavKeys, keys.wf = true →
    (∀ p : Packet, (decodePacket p).wf keys = true ∧
      encode keys (decodePacket p) = .packet p.bytes) ∧
    (∀ c : Option Byte, (decodeCommand keys c).wf keys = true ∧
      encode keys (decodeCommand keys c) = .command c)

/-- R87 (derived there from R82): a packet has row `r` exactly when `mrag16 & 0xAA80` is `match(r)`. -/
def Obligations.RowIsMaskedMatch : Prop :=
  ∀ (p : Packet) (r : Row), rowOf p = r ↔ mrag16 p &&& 0xAA80#16 = matchOfRow r

/-- R80 and R89: every 42-byte sequence is a packet of the class of its row; any other length is no
packet and is rejected by name. -/
def Obligations.EveryFullPacketDecodes : Prop :=
  ∀ (keys : FavKeys) (bs : List Byte),
    (∀ h : bs.length = 42, ∃ i : Instr, decode keys (.packet bs) = .ok i ∧
      i.packetRow = some (⟨bs, h⟩, rowOf ⟨bs, h⟩)) ∧
    (bs.length < 42 → decode keys (.packet bs) = .error (.shortPacket bs.length)) ∧
    (42 < bs.length → decode keys (.packet bs) = .error (.overlongPacket bs.length))

/-- A few words written out from the tables of R86 and R88. The seven characters are ASCII codes, which
are general knowledge (G1, G2; PRESUMED, log 26), and that `H` is no command rests besides on the
favourite keys the model chose (log 6). -/
def Obligations.SampleWordsDecode : Prop :=
  decodeTableWord 16 0x0002 = some (.hdr (packetOfWord 16 0x0002)) ∧
  decodeTableWord 16 0x0082 = some (.row1 (packetOfWord 16 0x0082)) ∧
  decodeTableWord 16 0xA002 = some (.row24 (packetOfWord 16 0xA002)) ∧
  decodeTableWord 16 0xA082 = some (.ign25 (packetOfWord 16 0xA082)) ∧
  decodeTableWord 16 0xA202 = some (.meta26 (packetOfWord 16 0xA202)) ∧
  decodeTableWord 16 0xA282 = some (.link27 (packetOfWord 16 0xA282)) ∧
  decodeTableWord 8 0x68 = some .hold ∧ decodeTableWord 8 0x72 = some .reveal ∧
  decodeTableWord 8 0x71 = some .quit ∧ decodeTableWord 8 0x1B = some .quitEsc ∧
  decodeTableWord 8 0x30 = some .digit0 ∧ decodeTableWord 8 0x39 = some .digit9 ∧
  decodeTableWord 8 0x48 = some (.nocmd (some 0x48))

/-- R88 (character codes from general knowledge, log 26): the command of every input, for every key
table in its domain. -/
def Obligations.CommandTableIsRead : Prop :=
  ∀ keys : FavKeys, keys.wf = true →
    decodeCommand keys none = .nocmd none ∧
    decodeCommand keys (some 0x68#8) = .hold ∧ decodeCommand keys (some 0x72#8) = .reveal ∧
    decodeCommand keys (some 0x71#8) = .quit ∧ decodeCommand keys (some 0x1B#8) = .quitEsc ∧
    (∀ i c, (i, c) ∈ digitCommands → decodeCommand keys (some c) = i) ∧
    (∀ b, decodeCommand keys (some (keys.slot0.pick b)) = .fav0 b ∧
      decodeCommand keys (some (keys.slot1.pick b)) = .fav1 b ∧
      decodeCommand keys (some (keys.slot2.pick b)) = .fav2 b ∧
      decodeCommand keys (some (keys.slot3.pick b)) = .fav3 b) ∧
    (∀ c, isFixedCommand c = false → c ∉ keys.all → decodeCommand keys (some c) = .nocmd (some c))

/-! ### The packet buffer and the input port -/

/-- R65, R66: packet `i` of a stream is its bytes `42*i` to `42*i + 41`, the last delivery what is left. -/
def Obligations.StreamIsCutEvery42Bytes : Prop :=
  ∀ (bs : List Byte) (i : Nat),
    ((cutStream bs)[i]?).map Delivery.bytes =
      if 42 * i < bs.length then some ((bs.drop (42 * i)).take 42) else none

/-- R60, R62: the filled buffer reads as the delivery's bytes, offset by offset, and keeps its form. -/
def Obligations.BufferHoldsTheDelivery : Prop :=
  ∀ d : Delivery, Memory.wf (Memory.fill d) = true ∧
    (∀ a, (Memory.fill d).read a = d.bytes[a]?) ∧ (Memory.fill d).contents = d.bytes

/-! ### A step -/

/-- R121: a packet turn with a full delivery runs the instruction those bytes decode to, from the state
whose turn and delivery are taken and whose buffer holds the bytes; the buffer is released after it. -/
def Obligations.StepRunsTheDecodedPacket : Prop :=
  ∀ (s : State) (i : Instr), s.halted = false → nextTurn s = .packet →
    decode s.params.favKeys (.packet (nextDelivery s).bytes) = .ok i →
    step s = mapNext releaseBuffer
      (exec i { beginStep s with pkt := s.pkt.tail, buffer := Memory.fill (nextDelivery s) })

/-- R182, R183: a key poll and a message of at most one character run the command they decode to; a
message is acknowledged after it (after one that quits that is left open, U7, log 11). That an empty
message is run too is the model's reading of R183 against entry U13 (log 20), and what counts as one
character of a message is the model's choice (log 38). -/
def Obligations.StepRunsTheDecodedCommand : Prop :=
  ∀ s : State, s.halted = false →
    (nextTurn s = .key →
      step s = exec (decodeCommand s.params.favKeys s.keys.head?.join)
        { beginStep s with keys := s.keys.tail }) ∧
    (∀ m, nextTurn s = .message → s.messages.head?.join = some m → m.length ≤ 1 →
      step s = mapNext acknowledge (exec (decodeCommand s.params.favKeys m.head?)
        { beginStep s with messages := s.messages.tail })) ∧
    (∀ t : State, t.halted = false → acknowledge t = { t with actions := t.actions ++ [.ack] })

/-- R122: a delivery shorter than 42 bytes raises `FatalIngest` whatever it holds: the entry emits
`LogFatal` first, halts with the cause `SHORT_PACKET` and changes no register of the Tuning State;
`Cleanup` may or may not follow (U6, log 10). A delivery of 42 bytes never raises it. -/
def Obligations.ShortDeliveryIsFatal : Prop :=
  ∀ (s : State) (d : Delivery) (later : List Delivery), s.halted = false → nextTurn s = .packet →
    s.pkt = d :: later →
    (d.bytes.length < 42 → ∃ rest : List Action, (rest = [] ∨ rest = [.cleanup]) ∧
      step s = .next { beginStep s with
        pkt := later
        buffer := []
        halted := true
        haltCause := .shortPacket
        actions := .logFatal :: rest }) ∧
    (d.bytes.length = 42 →
      ∃ t, step s = .next t ∧ t.halted = false ∧ Action.logFatal ∉ t.actions)

/-- R204 with decision D23: a stream that ends is a delivery of length 0, so a packet turn with nothing
left to deliver ends the run; the statement also says that `currentMag` and `rowsSeen` stay, and nothing
of the other registers. That an empty queue is the end of the stream is the model's choice (log 13). -/
def Obligations.ExhaustedPortEndsTheRun : Prop :=
  ∀ s : State, s.halted = false → nextTurn s = .packet → s.pkt = [] →
    ∃ t, step s = .next t ∧ t.halted = true ∧ t.haltCause = .shortPacket ∧
      t.actions.head? = some .logFatal ∧ t.currentMag = s.currentMag ∧ t.rowsSeen = s.rowsSeen

/-- R204: while halted no instruction and no step but reset is taken. -/
def Obligations.HaltedTakesNoStep : Prop :=
  (∀ (i : Instr) (s : State), s.halted = true → exec i s = .fault .halted) ∧
  (∀ s : State, s.halted = true → (∀ m p, nextTurn s ≠ .reset m p) → step s = .fault .halted)

/-- R231, R232 (values by decisions D6 to D10, log 1 to 5): reset writes every register, halted or not,
and emits nothing; what the environment has in store and the parameters stay; parameters outside their
domain are refused. -/
def Obligations.ResetWritesEveryRegister : Prop :=
  ∀ (s : State) (m p : Nat), nextTurn s = .reset m p →
    (m ≤ 8 → p ≤ 0xFF → step s = .next { beginStep s with
      currentMag := BitVec.ofNat 4 (if m = 0 then 1 else m)
      currentPage := BitVec.ofNat 8 p
      capturing := false
      wasCapturing := false
      seeking := true
      lastSubcode := s.params.lastSubcodeReset
      rowsSeen := 0#32
      elideRow := 0#5
      holdMode := false
      revealMode := false
      suppressHeader := false
      entryBuf := s.params.entryBufReset
      rowCounter := 0
      lastHeaderPacket := s.params.lastHeaderReset
      halted := false
      haltCause := .none
      buffer := []
      phase := .packet 0
      actions := [] }) ∧
    (8 < m ∨ 0xFF < p → step s = .refused .resetParameterOutOfRange)

/-- R184: the loop serves 16 packets, then the key, then the control channel, over and over; without a
departure of the environment a step serves the loop's turn and moves it on by one place. -/
def Obligations.LoopServesSixteenPacketsKeyMessage : Prop :=
  (∀ n : Nat, phaseTurn (nextPhase^[n] (.packet 0)) =
    if n % 18 < 16 then .packet else if n % 18 = 16 then .key else .message) ∧
  (∀ s t : State, s.turns = [] → step s = .next t →
    nextTurn s = phaseTurn s.phase ∧ t.turns = [] ∧ t.phase = nextPhase s.phase)

/-- R185: a step of the loop is also a step of the relaxed schedule, with the same result but for the
loop's place. -/
def Obligations.LoopStepIsARelaxedStep : Prop :=
  ∀ s : State, s.turns = [] →
    ResultsRelated (fun t u => { u with phase := t.phase } = t)
      (step s) (step { s with turns := [phaseTurn s.phase] })

/-- R183, R208: no key and no message are no events; the poll changes nothing and emits nothing. -/
def Obligations.EmptyPollsDoNothing : Prop :=
  ∀ s : State, s.halted = false →
    (nextTurn s = .key → s.keys.head?.join = none →
      step s = .next { beginStep s with keys := s.keys.tail }) ∧
    (nextTurn s = .message → s.messages.head?.join = none →
      step s = .next { beginStep s with messages := s.messages.tail })

/-- R180, R174, S10: `q` and ESC end the run alike from the key poll and from the control channel; after
the message `Ack` is left open (U7). -/
def Obligations.QuitIsTheSameFromKeyAndMessage : Prop :=
  ∀ (s : State) (c : Byte), s.halted = false → (c = 0x71#8 ∨ c = 0x1B#8) →
    step { s with turns := [.key], keys := [some c] } =
      .next { s with turns := [], keys := [], halted := true, haltCause := .quit, actions := [.cleanup] } ∧
    ∃ rest : List Action, (rest = [] ∨ rest = [.ack]) ∧
      step { s with turns := [.message], messages := [some [c]] } =
        .next { s with
          turns := [], messages := [], halted := true, haltCause := .quit,
          actions := .cleanup :: rest }

/-- R186, R174: the interrupt halts the block at a step boundary (decision D29) with the cause `INT` and
one `Cleanup`. -/
def Obligations.InterruptHalts : Prop :=
  ∀ s : State, s.halted = false → nextTurn s = .interrupt →
    step s = .next { beginStep s with halted := true, haltCause := .int, actions := [.cleanup] }

/-- R203: the codes of the halt causes, which are the spec's own (decision D15, log 19). -/
def Obligations.HaltCauseCodes : Prop :=
  HaltCause.none.code = 0#2 ∧ HaltCause.shortPacket.code = 1#2 ∧ HaltCause.quit.code = 2#2 ∧
    HaltCause.int.code = 3#2

/-- R171 to R174 and decision D12 (log 21): the primitives of the control port, issued by the host. -/
def Obligations.PrimitivesOfTheControlPort : Prop :=
  ∀ s : State, s.halted = false →
    (∀ mag page, 1 ≤ mag.toNat → mag.toNat ≤ 8 → execPrimitive (.setTune mag page) s =
      .next { s with currentMag := mag, currentPage := page, seeking := true }) ∧
    (∀ mag page, mag.toNat = 0 ∨ 8 < mag.toNat →
      execPrimitive (.setTune mag page) s = .refused .magazineOutOfRange) ∧
    execPrimitive .toggleHold s = .next { s with holdMode := !s.holdMode } ∧
    execPrimitive .toggleReveal s = .next { s with
      revealMode := !s.revealMode, actions := s.actions ++ [.toggleReveal] } ∧
    execPrimitive .haltQuit s = .next { s with
      halted := true, haltCause := .quit, actions := s.actions ++ [.cleanup] } ∧
    execPrimitive .haltInt s = .next { s with
      halted := true, haltCause := .int, actions := s.actions ++ [.cleanup] }

/-! ### The header transition -/

/-- R123, R124: a packet of another magazine, of any of the 32 classes, changes nothing and emits
nothing. -/
def Obligations.OtherMagazineIsDropped : Prop :=
  ∀ (i : Instr) (p : Packet) (r : Row) (s : State), i.packetRow = some (p, r) →
    s.halted = false → magazineOf p ≠ s.currentMag → exec i s = .next s

/-- R144 (`HDR`, hold on): exactly `PaintHoldHeader`, and no register changes but the marker, which is
cleared. -/
def Obligations.HeldHeaderOnlyClearsTheMarker : Prop :=
  ∀ (p : Packet) (s : State), Accepts s p → s.holdMode = true →
    exec (.hdr p) s =
      .next { s with elideRow := 0#5, actions := s.actions ++ [.paintHoldHeader p] }

/-- R143: every header that passes the filter clears the marker, whatever its page, held or not. -/
def Obligations.EveryHeaderClearsTheMarker : Prop :=
  ∀ (p : Packet) (s : State), Accepts s p → ∃ t, exec (.hdr p) s = .next t ∧ t.elideRow = 0#5

/-- R146 (`HDR`, hold off, page matches), with the paint of R149: the whole next state. -/
def Obligations.MatchingHeaderCaptures : Prop :=
  ∀ (p : Packet) (s : State), Accepts s p → s.holdMode = false →
    decodePageNumber p = s.currentPage →
    exec (.hdr p) s = .next { s with
      elideRow := 0#5
      capturing := true
      wasCapturing := true
      seeking := false
      rowCounter := 0
      lastHeaderPacket := p
      suppressHeader := decodeControlFlag p
      rowsSeen := if decodeSubcode p = s.lastSubcode then s.rowsSeen else 0#32
      lastSubcode := decodeSubcode p
      actions := s.actions ++
        (if decodeSubcode p = s.lastSubcode then [] else [.rendererClear]) ++
        [.paintHeader p s.currentMag s.currentPage false (decodeControlFlag p)] }

/-- R145: a header that is not held makes `capturing` true exactly when its page number is the tuned
one, whatever its subcode. -/
def Obligations.LiveHeaderDecidesCapturing : Prop :=
  ∀ (p : Packet) (s : State), Accepts s p → s.holdMode = false →
    ∃ t, exec (.hdr p) s = .next t ∧
      (t.capturing = true ↔ (decodePageNumber p).toNat = s.currentPage.toNat)

/-- R145, R147, R148, R149 (`HDR`, hold off, page differs): the whole next state, the blanked rows in the
rising order of decision D14 (log 31). -/
def Obligations.OtherHeaderEndsTheCycle : Prop :=
  ∀ (p : Packet) (s : State), Accepts s p → s.holdMode = false →
    decodePageNumber p ≠ s.currentPage →
    exec (.hdr p) s = .next { s with
      elideRow := 0#5
      capturing := false
      wasCapturing := false
      rowsSeen := if s.wasCapturing then 0#32 else s.rowsSeen
      suppressHeader := if s.seeking then false else s.suppressHeader
      actions := s.actions ++
        (if s.wasCapturing then
          (((List.range 24).map (· + 1)).filter (fun r => !s.rowsSeen.getLsbD r)).map
            (fun r => .blankRow (BitVec.ofNat 5 r))
        else []) ++
        (if s.seeking then [.colorReset] else []) ++
        [.paintHeader p s.currentMag s.currentPage s.seeking
          (if s.seeking then false else s.suppressHeader)] }

/-- R147: completing a capture cycle blanks exactly the rows 1 to 24 absent from the row set, each once,
and no others, and empties the set; a header of another page leaves `wasCapturing` false; outside that
edge a header blanks nothing and the set stays. -/
def Obligations.CycleEndBlanksExactlyTheUnseenRows : Prop :=
  ∀ (p : Packet) (s : State), Accepts s p → s.holdMode = false →
    ∃ (t : State) (new : List Action), exec (.hdr p) s = .next t ∧ t.actions = s.actions ++ new ∧
      (∀ r : Row, new.count (.blankRow r) =
        if decodePageNumber p ≠ s.currentPage ∧ s.wasCapturing = true ∧ 1 ≤ r.toNat ∧
          r.toNat ≤ 24 ∧ s.rowsSeen.getLsbD r.toNat = false then 1 else 0) ∧
      (decodePageNumber p ≠ s.currentPage →
        t.wasCapturing = false ∧ t.rowsSeen = if s.wasCapturing then 0#32 else s.rowsSeen)

/-- R148, R149: with hold off every accepted header ends with exactly one `PaintHeader`, labelled with
the tuned page and carrying the flags as they are left; a header of another page, while seeking, forces
`suppressHeader` off and resets the colours once, and no other header does. -/
def Obligations.LiveHeaderPaintsOnceAtTheEnd : Prop :=
  ∀ (p : Packet) (s : State), Accepts s p → s.holdMode = false →
    ∃ (t : State) (before : List Action), exec (.hdr p) s = .next t ∧
      t.actions = s.actions ++ before ++
        [.paintHeader p s.currentMag s.currentPage t.seeking t.suppressHeader] ∧
      (∀ q m pg sk sp, Action.paintHeader q m pg sk sp ∉ before) ∧
      t.seeking = (s.seeking && decide (decodePageNumber p ≠ s.currentPage)) ∧
      t.suppressHeader = (if decodePageNumber p = s.currentPage then decodeControlFlag p
        else if s.seeking then false else s.suppressHeader) ∧
      before.count .colorReset =
        if decodePageNumber p ≠ s.currentPage ∧ s.seeking = true then 1 else 0

/-! ### The row transition -/

/-- R151 (all rows 1 to 31): a row equal to the marker is skipped, with exactly `IdlePump`. -/
def Obligations.MarkedRowIsSkipped : Prop :=
  ∀ (i : Instr) (p : Packet) (r : Row) (s : State), i.packetRow = some (p, r) → r ≠ 0#5 →
    Accepts s p → s.elideRow = r →
    exec i s = .next { s with elideRow := 0#5, actions := s.actions ++ [.idlePump] }

/-- R152 (all rows 1 to 31): without a match of the marker, a row does nothing at all outside a capture,
and is added to the row set, whatever its class, inside one. -/
def Obligations.CaptureGateMarksTheRow : Prop :=
  ∀ (i : Instr) (p : Packet) (r : Row) (s : State), i.packetRow = some (p, r) → r ≠ 0#5 →
    Accepts s p → s.elideRow ≠ r →
    (s.capturing = false → exec i s = .next s) ∧
    (s.capturing = true → ∃ t, exec i s = .next t ∧
      ∀ k : Row, t.rowsSeen.getLsbD k.toNat = (decide (k = r) || s.rowsSeen.getLsbD k.toNat))

/-- R153, R154 (`ROW1` .. `ROW24`): a captured text row is marked seen, painted and counted; the answer
true sets the marker to the next row. The answer is the environment's, or a free value without a law
(D18, log 9). -/
def Obligations.CapturedTextRowIsPainted : Prop :=
  ∀ (i : Instr) (p : Packet) (r : Row) (s : State), i.packetRow = some (p, r) → 1 ≤ r.toNat →
    r.toNat ≤ 24 → Accepts s p → s.elideRow ≠ r → s.capturing = true →
    (∀ (a : Bool) (rest : List Bool), s.answers = a :: rest →
      exec i s = .next { s with
        answers := rest
        rowsSeen := s.rowsSeen ||| (1#32 <<< r.toNat)
        elideRow := if a then r + 1#5 else s.elideRow
        rowCounter := s.rowCounter + 1
        actions := s.actions ++ [.paintRow p r] }) ∧
    (s.answers = [] → ∃ a : Bool,
      exec i s = .next { s with
        draws := s.draws + 1
        rowsSeen := s.rowsSeen ||| (1#32 <<< r.toNat)
        elideRow := if a then r + 1#5 else s.elideRow
        rowCounter := s.rowCounter + 1
        actions := s.actions ++ [.paintRow p r] })

/-- R155 (`META26`, `META28`): a captured enhancement row is marked seen and forwarded, nothing else;
outside a capture nothing happens. -/
def Obligations.EnhancementRowIsForwarded : Prop :=
  ∀ (i : Instr) (p : Packet) (r : Row) (s : State), i.packetRow = some (p, r) →
    (r = 26#5 ∨ r = 28#5) → Accepts s p → s.elideRow.toNat ≤ 25 →
    exec i s = .next (if s.capturing then { s with
      rowsSeen := s.rowsSeen ||| (1#32 <<< r.toNat)
      actions := s.actions ++ [.metaDecode p r] } else s)

/-- R156 (`LINK27`): a captured link row is marked seen and forwarded, nothing else; outside a capture
nothing happens. -/
def Obligations.LinkRowIsForwarded : Prop :=
  ∀ (p : Packet) (s : State), Accepts s p → s.elideRow.toNat ≤ 25 →
    exec (.link27 p) s = .next (if s.capturing then { s with
      rowsSeen := s.rowsSeen ||| (1#32 <<< 27)
      actions := s.actions ++ [.linkDecode p] } else s)

/-- R157 (`IGN25`, `IGN29`, `IGN30`, `IGN31`): row 25 equal to the marker is pumped; otherwise, and for
the rows 29 to 31 always, a captured row is marked seen and there is no action. -/
def Obligations.IgnoredRowIsOnlyMarked : Prop :=
  ∀ (i : Instr) (p : Packet) (r : Row) (s : State), i.packetRow = some (p, r) →
    (r = 25#5 ∨ 29 ≤ r.toNat) → Accepts s p → s.elideRow.toNat ≤ 25 →
    exec i s = .next (
      if r = 25#5 ∧ s.elideRow = 25#5 then
        { s with elideRow := 0#5, actions := s.actions ++ [.idlePump] }
      else if s.capturing then { s with rowsSeen := s.rowsSeen ||| (1#32 <<< r.toNat) }
      else s)

/-- R159: after an answer true for row `r`, the next packet of row `r + 1` is pumped, not painted and not
marked; a second copy of it, if a text row, is painted. -/
def Obligations.SkipTriggersOncePerSignal : Prop :=
  ∀ (i j : Instr) (p q : Packet) (r : Row) (s : State) (a : Bool) (rest : List Bool),
    i.packetRow = some (p, r) → j.packetRow = some (q, r + 1#5) → 1 ≤ r.toNat → r.toNat ≤ 24 →
    Accepts s p → magazineOf q = s.currentMag → s.elideRow ≠ r → s.capturing = true →
    s.answers = true :: a :: rest →
    ∃ t u v : State, exec i s = .next t ∧ t.actions = s.actions ++ [.paintRow p r] ∧
      exec j t = .next u ∧ u.actions = t.actions ++ [.idlePump] ∧ u.rowsSeen = t.rowsSeen ∧
      u.elideRow = 0#5 ∧ exec j u = .next v ∧
      (r.toNat < 24 → v.actions = u.actions ++ [.paintRow q (r + 1#5)]) ∧
      (r.toNat = 24 → v.actions = u.actions)

/-- R209, frame of all 32 packet classes: while running each answers a next state, and no register of the
host's side, no halt register and no byte of the packet buffer changes. -/
def Obligations.PacketsLeaveTheHostSideAlone : Prop :=
  ∀ (i : Instr) (p : Packet) (r : Row) (s : State), i.packetRow = some (p, r) → s.halted = false →
    ∃ t, exec i s = .next t ∧ EngineFrame s t

/-- R150, frame of the rows 1 to 31: only `elideRow`, `rowsSeen` and `rowCounter` may change. -/
def Obligations.RowsWriteOnlyTheirThreeRegisters : Prop :=
  ∀ (i : Instr) (p : Packet) (r : Row) (s t : State), i.packetRow = some (p, r) → r ≠ 0#5 →
    exec i s = .next t → RowFrame s t

/-! ### The commands -/

/-- R172, R176 (`HOLD`). -/
def Obligations.HoldToggles : Prop :=
  ∀ s : State, s.halted = false → exec .hold s = .next { s with holdMode := !s.holdMode }

/-- R173, R179 (`REVEAL`). -/
def Obligations.RevealToggles : Prop :=
  ∀ s : State, s.halted = false → exec .reveal s =
    .next { s with revealMode := !s.revealMode, actions := s.actions ++ [.toggleReveal] }

/-- R174, R180 (`QUIT`, `QUIT_ESC`): the run ends with the cause `QUIT` and one `Cleanup`, alike for
both. -/
def Obligations.QuitHalts : Prop :=
  ∀ s : State, s.halted = false →
    exec .quit s = .next { s with
      halted := true, haltCause := .quit, actions := s.actions ++ [.cleanup] } ∧
    exec .quitEsc s = exec .quit s

/-- R177 (`FAV0` .. `FAV3`): the recall of a favourite whose magazine is in 1..8 (the domain of `FAV_MAG`
in R9) re-tunes, clears the renderer (one `clear`, decision D27) and changes nothing else. -/
def Obligations.FavouriteRecallTunes : Prop :=
  ∀ (s : State) (second : Bool), s.halted = false →
    ∀ i f, (i, f) ∈ [(Instr.fav0 second, s.favoriteSlots.slot0), (.fav1 second, s.favoriteSlots.slot1),
      (.fav2 second, s.favoriteSlots.slot2), (.fav3 second, s.favoriteSlots.slot3)] →
    1 ≤ f.mag.toNat → f.mag.toNat ≤ 8 → exec i s = .next { s with
      currentMag := f.mag
      currentPage := f.page
      seeking := true
      actions := s.actions ++ [.rendererClear] }

/-- What the spec refuses (its own decisions D11, D12, D20 and entry U11; log 21, 23): the recall of a
favourite whose magazine is outside 1..8, and a control message of more than one character. What counts
as one character of a message is the model's choice (log 38). -/
def Obligations.InputsTheSpecRefuses : Prop :=
  (∀ (s : State) (second : Bool), s.halted = false →
    ∀ i f, (i, f) ∈ [(Instr.fav0 second, s.favoriteSlots.slot0), (.fav1 second, s.favoriteSlots.slot1),
      (.fav2 second, s.favoriteSlots.slot2), (.fav3 second, s.favoriteSlots.slot3)] →
    f.mag.toNat = 0 ∨ 8 < f.mag.toNat → exec i s = .refused .magazineOutOfRange) ∧
  (∀ (s : State) (m : List Byte), s.halted = false → nextTurn s = .message →
    s.messages.head?.join = some m → 1 < m.length → step s = .refused .controlMessageTooLong)

/-- R178 (`DIGIT0` .. `DIGIT9`): the buffer shifts; a front character 1..8 re-tunes at once and echoes
(the echo under the condition: decision D26, log 31), any other front changes nothing else. -/
def Obligations.DigitShiftsAndTunes : Prop :=
  ∀ (s : State) (i : Instr) (c : Byte), s.halted = false → (i, c) ∈ digitCommands →
    s.entryBuf.wf = true →
    (0x31 ≤ s.entryBuf.c1.toNat ∧ s.entryBuf.c1.toNat ≤ 0x38 → exec i s = .next { s with
      entryBuf := ⟨s.entryBuf.c1, s.entryBuf.c2, c⟩
      currentMag := BitVec.ofNat 4 (s.entryBuf.c1.toNat - 0x30)
      currentPage := BitVec.ofNat 8 ((s.entryBuf.c2.toNat - 0x30) * 16 + (c.toNat - 0x30))
      seeking := true
      actions := s.actions ++ [.echoTypingHeader ⟨s.entryBuf.c1, s.entryBuf.c2, c⟩] }) ∧
    (s.entryBuf.c1 = 0x30#8 ∨ s.entryBuf.c1 = 0x39#8 →
      exec i s = .next { s with entryBuf := ⟨s.entryBuf.c1, s.entryBuf.c2, c⟩ })

/-- R178, S7: three digits with a front of 1..8 leave the block tuned to that magazine and page, seeking,
whatever the buffer held before. -/
def Obligations.ThreeDigitsTune : Prop :=
  ∀ (s : State) (i j k : Instr) (a b c : Byte), s.halted = false → s.entryBuf.wf = true →
    (i, a) ∈ digitCommands → (j, b) ∈ digitCommands → (k, c) ∈ digitCommands →
    0x31 ≤ a.toNat → a.toNat ≤ 0x38 →
    ∃ t u v : State, exec i s = .next t ∧ exec j t = .next u ∧ exec k u = .next v ∧
      v.entryBuf = ⟨a, b, c⟩ ∧ v.currentMag.toNat = a.toNat - 0x30 ∧
      v.currentPage.toNat = (b.toNat - 0x30) * 16 + (c.toNat - 0x30) ∧ v.seeking = true ∧
      v.actions.getLast? = some (.echoTypingHeader ⟨a, b, c⟩)

/-- R175 (`NOCMD`): nothing changes and nothing is emitted. -/
def Obligations.NoCommandDoesNothing : Prop :=
  ∀ (c : Option Byte) (s : State), s.halted = false → exec (.nocmd c) s = .next s

/-- R170, frame of all 19 commands: none touches the row and subpage tracking, the packet buffer, or what
the environment has in store. -/
def Obligations.CommandsNeverTouchTracking : Prop :=
  ∀ (i : Instr) (s t : State), i.packetRow = none → exec i s = .next t → CommandFrame s t

/-! ### Whole-machine statements -/

/-- The invariant holds at reset, for every parameter of R9 in its domain. -/
def Obligations.ResetMeetsTheInvariant : Prop :=
  Inv State.reset ∧
  (∀ (s t : State) (m p : Nat), s.params.wf = true → resetBlock m p s = .next t → Inv t)

/-- Every step keeps the invariant (R27, R34, R158, which the spec marks as derived). -/
def Obligations.StepKeepsTheInvariant : Prop :=
  ∀ s t : State, Inv s → step s = .next t → Inv t

/-- R22, R28: no output and no other register depends on `rowCounter`, `lastHeaderPacket` or
`revealMode`. -/
def Obligations.UnreadRegistersAreUnobservable : Prop :=
  ∀ s t : State, SameButUnread s t → ResultsRelated SameButUnread (step s) (step t)

/-- R61, R89, R101, R110, R111: no register but `lastHeaderPacket`, and no action but for the forwarded
packet itself, depends on a check bit, a masked bit or a payload byte. -/
def Obligations.UnreadBitsAreUnobservable : Prop :=
  ∀ (p q : Packet) (s t : State), SameReadBits p q → SameButPackets s t →
    ResultsRelated SameButPackets (exec (decodePacket p) s) (exec (decodePacket q) t)

/-- R72, R33, R239: after a re-tune the very next packet is filtered with the new magazine, while
`capturing` is still the old one. -/
def Obligations.RetuneActsOnTheNextPacket : Prop :=
  ∀ (s : State) (mag : Magazine) (page : Page), s.halted = false → 1 ≤ mag.toNat →
    mag.toNat ≤ 8 →
    ∃ t, execPrimitive (.setTune mag page) s = .next t ∧ t.capturing = s.capturing ∧
      (∀ (i : Instr) (p : Packet) (r : Row), i.packetRow = some (p, r) → magazineOf p ≠ mag →
        exec i t = .next t) ∧
      (∀ (i : Instr) (p : Packet) (r : Row) (a : Bool) (rest : List Bool),
        i.packetRow = some (p, r) → 1 ≤ r.toNat → r.toNat ≤ 24 → magazineOf p = mag →
        s.elideRow ≠ r → s.capturing = true → s.answers = a :: rest →
        ∃ u, exec i t = .next u ∧ u.actions = s.actions ++ [.paintRow p r])
end

