-- ==== Sys2Proof/Laws/Memory.lean ====
section
/-! SUPPORT. The packet buffer: its form, its reads, its contents. -/

namespace Sys2Proof.Machine

@[simp] theorem Memory.read_nil (a : Nat) : Memory.read [] a = none := rfl

theorem Memory.read_layFrom (bs : List Byte) (b a : Nat) :
    (Memory.layFrom b bs).read a = if b ≤ a then bs[a - b]? else none := by
  induction bs generalizing b with
  | nil => simp [Memory.layFrom]
  | cons x xs ih =>
    simp only [Memory.layFrom, Memory.read, ih]
    by_cases h : b = a
    · simp [h]
    · by_cases h2 : b ≤ a
      · have h3 : b + 1 ≤ a := by omega
        have h4 : a - b = (a - (b + 1)) + 1 := by omega
        simp [h, h2, h3, h4]
      · have h3 : ¬ b + 1 ≤ a := by omega
        simp [h, h2, h3]

@[simp] theorem Memory.read_fill (d : Delivery) (a : Nat) : (Memory.fill d).read a = d.bytes[a]? := by
  simp [Memory.fill, Memory.read_layFrom]

theorem Memory.layFrom_wf (bs : List Byte) (b : Nat) (h : b + bs.length ≤ 42) :
    Memory.wf (Memory.layFrom b bs) = true := by
  induction bs generalizing b with
  | nil => rfl
  | cons x xs ih =>
    simp only [List.length_cons] at h
    cases xs with
    | nil => simp [Memory.layFrom, Memory.wf, Config.pktLen]; omega
    | cons y ys =>
      have h1 := ih (b + 1) (by omega)
      simp only [Memory.layFrom] at h1 ⊢
      simp [Memory.wf, h1]

theorem Memory.fill_wf (d : Delivery) : Memory.wf (Memory.fill d) = true :=
  Memory.layFrom_wf d.bytes 0 (by simpa using d.len_le)

theorem Memory.empty_wf : Memory.wf [] = true := rfl

theorem fillBuffer_wf (d : Delivery) (s : State) : Memory.wf (fillBuffer d s).buffer = true :=
  Memory.fill_wf d

theorem releaseBuffer_wf (s : State) : Memory.wf (releaseBuffer s).buffer = true := rfl

theorem reset_buffer_wf : Memory.wf State.reset.buffer = true := rfl

theorem listed_bytes (bs : List Byte) (n : Nat) (h : bs.length ≤ n) :
    (((List.range n).map (fun a => bs[a]?)).takeWhile Option.isSome).filterMap id = bs := by
  induction bs generalizing n with
  | nil => cases n <;> simp [List.range_succ_eq_map]
  | cons x xs ih =>
    cases n with
    | zero => simp at h
    | succ m =>
      have hm : xs.length ≤ m := by simpa using h
      simpa [List.range_succ_eq_map, Function.comp_def] using ih m hm

@[simp] theorem Memory.contents_fill (d : Delivery) : (Memory.fill d).contents = d.bytes := by
  have h : Memory.read (Memory.fill d) = fun a => d.bytes[a]? := funext (Memory.read_fill d)
  rw [Memory.contents, h]
  exact listed_bytes d.bytes 42 d.len_le

end Sys2Proof.Machine
end

