-- ==== Sys2Proof/Laws/State.lean ====
section
/-! SUPPORT. One lemma per field per named update of the state. -/

namespace Sys2Proof.Machine

/-! `emit` -/
@[simp] theorem emit_currentMag (a : Action) (s : State) : (emit a s).currentMag = s.currentMag := rfl
@[simp] theorem emit_currentPage (a : Action) (s : State) : (emit a s).currentPage = s.currentPage := rfl
@[simp] theorem emit_capturing (a : Action) (s : State) : (emit a s).capturing = s.capturing := rfl
@[simp] theorem emit_wasCapturing (a : Action) (s : State) : (emit a s).wasCapturing = s.wasCapturing := rfl
@[simp] theorem emit_seeking (a : Action) (s : State) : (emit a s).seeking = s.seeking := rfl
@[simp] theorem emit_lastSubcode (a : Action) (s : State) : (emit a s).lastSubcode = s.lastSubcode := rfl
@[simp] theorem emit_rowsSeen (a : Action) (s : State) : (emit a s).rowsSeen = s.rowsSeen := rfl
@[simp] theorem emit_elideRow (a : Action) (s : State) : (emit a s).elideRow = s.elideRow := rfl
@[simp] theorem emit_holdMode (a : Action) (s : State) : (emit a s).holdMode = s.holdMode := rfl
@[simp] theorem emit_revealMode (a : Action) (s : State) : (emit a s).revealMode = s.revealMode := rfl
@[simp] theorem emit_suppressHeader (a : Action) (s : State) : (emit a s).suppressHeader = s.suppressHeader := rfl
@[simp] theorem emit_entryBuf (a : Action) (s : State) : (emit a s).entryBuf = s.entryBuf := rfl
@[simp] theorem emit_favoriteSlots (a : Action) (s : State) : (emit a s).favoriteSlots = s.favoriteSlots := rfl
@[simp] theorem emit_rowCounter (a : Action) (s : State) : (emit a s).rowCounter = s.rowCounter := rfl
@[simp] theorem emit_lastHeaderPacket (a : Action) (s : State) : (emit a s).lastHeaderPacket = s.lastHeaderPacket := rfl
@[simp] theorem emit_halted (a : Action) (s : State) : (emit a s).halted = s.halted := rfl
@[simp] theorem emit_haltCause (a : Action) (s : State) : (emit a s).haltCause = s.haltCause := rfl
@[simp] theorem emit_buffer (a : Action) (s : State) : (emit a s).buffer = s.buffer := rfl
@[simp] theorem emit_pkt (a : Action) (s : State) : (emit a s).pkt = s.pkt := rfl
@[simp] theorem emit_keys (a : Action) (s : State) : (emit a s).keys = s.keys := rfl
@[simp] theorem emit_messages (a : Action) (s : State) : (emit a s).messages = s.messages := rfl
@[simp] theorem emit_phase (a : Action) (s : State) : (emit a s).phase = s.phase := rfl
@[simp] theorem emit_turns (a : Action) (s : State) : (emit a s).turns = s.turns := rfl
@[simp] theorem emit_answers (a : Action) (s : State) : (emit a s).answers = s.answers := rfl
@[simp] theorem emit_draws (a : Action) (s : State) : (emit a s).draws = s.draws := rfl
@[simp] theorem emit_actions (a : Action) (s : State) : (emit a s).actions = s.actions ++ [a] := rfl
@[simp] theorem emit_params (a : Action) (s : State) : (emit a s).params = s.params := rfl

/-! `emitAll` -/
@[simp] theorem emitAll_currentMag (as : List Action) (s : State) : (emitAll as s).currentMag = s.currentMag := rfl
@[simp] theorem emitAll_currentPage (as : List Action) (s : State) : (emitAll as s).currentPage = s.currentPage := rfl
@[simp] theorem emitAll_capturing (as : List Action) (s : State) : (emitAll as s).capturing = s.capturing := rfl
@[simp] theorem emitAll_wasCapturing (as : List Action) (s : State) : (emitAll as s).wasCapturing = s.wasCapturing := rfl
@[simp] theorem emitAll_seeking (as : List Action) (s : State) : (emitAll as s).seeking = s.seeking := rfl
@[simp] theorem emitAll_lastSubcode (as : List Action) (s : State) : (emitAll as s).lastSubcode = s.lastSubcode := rfl
@[simp] theorem emitAll_rowsSeen (as : List Action) (s : State) : (emitAll as s).rowsSeen = s.rowsSeen := rfl
@[simp] theorem emitAll_elideRow (as : List Action) (s : State) : (emitAll as s).elideRow = s.elideRow := rfl
@[simp] theorem emitAll_holdMode (as : List Action) (s : State) : (emitAll as s).holdMode = s.holdMode := rfl
@[simp] theorem emitAll_revealMode (as : List Action) (s : State) : (emitAll as s).revealMode = s.revealMode := rfl
@[simp] theorem emitAll_suppressHeader (as : List Action) (s : State) : (emitAll as s).suppressHeader = s.suppressHeader := rfl
@[simp] theorem emitAll_entryBuf (as : List Action) (s : State) : (emitAll as s).entryBuf = s.entryBuf := rfl
@[simp] theorem emitAll_favoriteSlots (as : List Action) (s : State) : (emitAll as s).favoriteSlots = s.favoriteSlots := rfl
@[simp] theorem emitAll_rowCounter (as : List Action) (s : State) : (emitAll as s).rowCounter = s.rowCounter := rfl
@[simp] theorem emitAll_lastHeaderPacket (as : List Action) (s : State) : (emitAll as s).lastHeaderPacket = s.lastHeaderPacket := rfl
@[simp] theorem emitAll_halted (as : List Action) (s : State) : (emitAll as s).halted = s.halted := rfl
@[simp] theorem emitAll_haltCause (as : List Action) (s : State) : (emitAll as s).haltCause = s.haltCause := rfl
@[simp] theorem emitAll_buffer (as : List Action) (s : State) : (emitAll as s).buffer = s.buffer := rfl
@[simp] theorem emitAll_pkt (as : List Action) (s : State) : (emitAll as s).pkt = s.pkt := rfl
@[simp] theorem emitAll_keys (as : List Action) (s : State) : (emitAll as s).keys = s.keys := rfl
@[simp] theorem emitAll_messages (as : List Action) (s : State) : (emitAll as s).messages = s.messages := rfl
@[simp] theorem emitAll_phase (as : List Action) (s : State) : (emitAll as s).phase = s.phase := rfl
@[simp] theorem emitAll_turns (as : List Action) (s : State) : (emitAll as s).turns = s.turns := rfl
@[simp] theorem emitAll_answers (as : List Action) (s : State) : (emitAll as s).answers = s.answers := rfl
@[simp] theorem emitAll_draws (as : List Action) (s : State) : (emitAll as s).draws = s.draws := rfl
@[simp] theorem emitAll_actions (as : List Action) (s : State) : (emitAll as s).actions = s.actions ++ as := rfl
@[simp] theorem emitAll_params (as : List Action) (s : State) : (emitAll as s).params = s.params := rfl

/-! `fillBuffer` -/
@[simp] theorem fillBuffer_currentMag (d : Delivery) (s : State) : (fillBuffer d s).currentMag = s.currentMag := rfl
@[simp] theorem fillBuffer_currentPage (d : Delivery) (s : State) : (fillBuffer d s).currentPage = s.currentPage := rfl
@[simp] theorem fillBuffer_capturing (d : Delivery) (s : State) : (fillBuffer d s).capturing = s.capturing := rfl
@[simp] theorem fillBuffer_wasCapturing (d : Delivery) (s : State) : (fillBuffer d s).wasCapturing = s.wasCapturing := rfl
@[simp] theorem fillBuffer_seeking (d : Delivery) (s : State) : (fillBuffer d s).seeking = s.seeking := rfl
@[simp] theorem fillBuffer_lastSubcode (d : Delivery) (s : State) : (fillBuffer d s).lastSubcode = s.lastSubcode := rfl
@[simp] theorem fillBuffer_rowsSeen (d : Delivery) (s : State) : (fillBuffer d s).rowsSeen = s.rowsSeen := rfl
@[simp] theorem fillBuffer_elideRow (d : Delivery) (s : State) : (fillBuffer d s).elideRow = s.elideRow := rfl
@[simp] theorem fillBuffer_holdMode (d : Delivery) (s : State) : (fillBuffer d s).holdMode = s.holdMode := rfl
@[simp] theorem fillBuffer_revealMode (d : Delivery) (s : State) : (fillBuffer d s).revealMode = s.revealMode := rfl
@[simp] theorem fillBuffer_suppressHeader (d : Delivery) (s : State) : (fillBuffer d s).suppressHeader = s.suppressHeader := rfl
@[simp] theorem fillBuffer_entryBuf (d : Delivery) (s : State) : (fillBuffer d s).entryBuf = s.entryBuf := rfl
@[simp] theorem fillBuffer_favoriteSlots (d : Delivery) (s : State) : (fillBuffer d s).favoriteSlots = s.favoriteSlots := rfl
@[simp] theorem fillBuffer_rowCounter (d : Delivery) (s : State) : (fillBuffer d s).rowCounter = s.rowCounter := rfl
@[simp] theorem fillBuffer_lastHeaderPacket (d : Delivery) (s : State) : (fillBuffer d s).lastHeaderPacket = s.lastHeaderPacket := rfl
@[simp] theorem fillBuffer_halted (d : Delivery) (s : State) : (fillBuffer d s).halted = s.halted := rfl
@[simp] theorem fillBuffer_haltCause (d : Delivery) (s : State) : (fillBuffer d s).haltCause = s.haltCause := rfl
@[simp] theorem fillBuffer_buffer (d : Delivery) (s : State) : (fillBuffer d s).buffer = Memory.fill d := rfl
@[simp] theorem fillBuffer_pkt (d : Delivery) (s : State) : (fillBuffer d s).pkt = s.pkt := rfl
@[simp] theorem fillBuffer_keys (d : Delivery) (s : State) : (fillBuffer d s).keys = s.keys := rfl
@[simp] theorem fillBuffer_messages (d : Delivery) (s : State) : (fillBuffer d s).messages = s.messages := rfl
@[simp] theorem fillBuffer_phase (d : Delivery) (s : State) : (fillBuffer d s).phase = s.phase := rfl
@[simp] theorem fillBuffer_turns (d : Delivery) (s : State) : (fillBuffer d s).turns = s.turns := rfl
@[simp] theorem fillBuffer_answers (d : Delivery) (s : State) : (fillBuffer d s).answers = s.answers := rfl
@[simp] theorem fillBuffer_draws (d : Delivery) (s : State) : (fillBuffer d s).draws = s.draws := rfl
@[simp] theorem fillBuffer_actions (d : Delivery) (s : State) : (fillBuffer d s).actions = s.actions := rfl
@[simp] theorem fillBuffer_params (d : Delivery) (s : State) : (fillBuffer d s).params = s.params := rfl

/-! `releaseBuffer` -/
@[simp] theorem releaseBuffer_currentMag (s : State) : (releaseBuffer s).currentMag = s.currentMag := rfl
@[simp] theorem releaseBuffer_currentPage (s : State) : (releaseBuffer s).currentPage = s.currentPage := rfl
@[simp] theorem releaseBuffer_capturing (s : State) : (releaseBuffer s).capturing = s.capturing := rfl
@[simp] theorem releaseBuffer_wasCapturing (s : State) : (releaseBuffer s).wasCapturing = s.wasCapturing := rfl
@[simp] theorem releaseBuffer_seeking (s : State) : (releaseBuffer s).seeking = s.seeking := rfl
@[simp] theorem releaseBuffer_lastSubcode (s : State) : (releaseBuffer s).lastSubcode = s.lastSubcode := rfl
@[simp] theorem releaseBuffer_rowsSeen (s : State) : (releaseBuffer s).rowsSeen = s.rowsSeen := rfl
@[simp] theorem releaseBuffer_elideRow (s : State) : (releaseBuffer s).elideRow = s.elideRow := rfl
@[simp] theorem releaseBuffer_holdMode (s : State) : (releaseBuffer s).holdMode = s.holdMode := rfl
@[simp] theorem releaseBuffer_revealMode (s : State) : (releaseBuffer s).revealMode = s.revealMode := rfl
@[simp] theorem releaseBuffer_suppressHeader (s : State) : (releaseBuffer s).suppressHeader = s.suppressHeader := rfl
@[simp] theorem releaseBuffer_entryBuf (s : State) : (releaseBuffer s).entryBuf = s.entryBuf := rfl
@[simp] theorem releaseBuffer_favoriteSlots (s : State) : (releaseBuffer s).favoriteSlots = s.favoriteSlots := rfl
@[simp] theorem releaseBuffer_rowCounter (s : State) : (releaseBuffer s).rowCounter = s.rowCounter := rfl
@[simp] theorem releaseBuffer_lastHeaderPacket (s : State) : (releaseBuffer s).lastHeaderPacket = s.lastHeaderPacket := rfl
@[simp] theorem releaseBuffer_halted (s : State) : (releaseBuffer s).halted = s.halted := rfl
@[simp] theorem releaseBuffer_haltCause (s : State) : (releaseBuffer s).haltCause = s.haltCause := rfl
@[simp] theorem releaseBuffer_buffer (s : State) : (releaseBuffer s).buffer = [] := rfl
@[simp] theorem releaseBuffer_pkt (s : State) : (releaseBuffer s).pkt = s.pkt := rfl
@[simp] theorem releaseBuffer_keys (s : State) : (releaseBuffer s).keys = s.keys := rfl
@[simp] theorem releaseBuffer_messages (s : State) : (releaseBuffer s).messages = s.messages := rfl
@[simp] theorem releaseBuffer_phase (s : State) : (releaseBuffer s).phase = s.phase := rfl
@[simp] theorem releaseBuffer_turns (s : State) : (releaseBuffer s).turns = s.turns := rfl
@[simp] theorem releaseBuffer_answers (s : State) : (releaseBuffer s).answers = s.answers := rfl
@[simp] theorem releaseBuffer_draws (s : State) : (releaseBuffer s).draws = s.draws := rfl
@[simp] theorem releaseBuffer_actions (s : State) : (releaseBuffer s).actions = s.actions := rfl
@[simp] theorem releaseBuffer_params (s : State) : (releaseBuffer s).params = s.params := rfl

/-! `dropDelivery` -/
@[simp] theorem dropDelivery_currentMag (s : State) : (dropDelivery s).currentMag = s.currentMag := rfl
@[simp] theorem dropDelivery_currentPage (s : State) : (dropDelivery s).currentPage = s.currentPage := rfl
@[simp] theorem dropDelivery_capturing (s : State) : (dropDelivery s).capturing = s.capturing := rfl
@[simp] theorem dropDelivery_wasCapturing (s : State) : (dropDelivery s).wasCapturing = s.wasCapturing := rfl
@[simp] theorem dropDelivery_seeking (s : State) : (dropDelivery s).seeking = s.seeking := rfl
@[simp] theorem dropDelivery_lastSubcode (s : State) : (dropDelivery s).lastSubcode = s.lastSubcode := rfl
@[simp] theorem dropDelivery_rowsSeen (s : State) : (dropDelivery s).rowsSeen = s.rowsSeen := rfl
@[simp] theorem dropDelivery_elideRow (s : State) : (dropDelivery s).elideRow = s.elideRow := rfl
@[simp] theorem dropDelivery_holdMode (s : State) : (dropDelivery s).holdMode = s.holdMode := rfl
@[simp] theorem dropDelivery_revealMode (s : State) : (dropDelivery s).revealMode = s.revealMode := rfl
@[simp] theorem dropDelivery_suppressHeader (s : State) : (dropDelivery s).suppressHeader = s.suppressHeader := rfl
@[simp] theorem dropDelivery_entryBuf (s : State) : (dropDelivery s).entryBuf = s.entryBuf := rfl
@[simp] theorem dropDelivery_favoriteSlots (s : State) : (dropDelivery s).favoriteSlots = s.favoriteSlots := rfl
@[simp] theorem dropDelivery_rowCounter (s : State) : (dropDelivery s).rowCounter = s.rowCounter := rfl
@[simp] theorem dropDelivery_lastHeaderPacket (s : State) : (dropDelivery s).lastHeaderPacket = s.lastHeaderPacket := rfl
@[simp] theorem dropDelivery_halted (s : State) : (dropDelivery s).halted = s.halted := rfl
@[simp] theorem dropDelivery_haltCause (s : State) : (dropDelivery s).haltCause = s.haltCause := rfl
@[simp] theorem dropDelivery_buffer (s : State) : (dropDelivery s).buffer = s.buffer := rfl
@[simp] theorem dropDelivery_pkt (s : State) : (dropDelivery s).pkt = s.pkt.tail := rfl
@[simp] theorem dropDelivery_keys (s : State) : (dropDelivery s).keys = s.keys := rfl
@[simp] theorem dropDelivery_messages (s : State) : (dropDelivery s).messages = s.messages := rfl
@[simp] theorem dropDelivery_phase (s : State) : (dropDelivery s).phase = s.phase := rfl
@[simp] theorem dropDelivery_turns (s : State) : (dropDelivery s).turns = s.turns := rfl
@[simp] theorem dropDelivery_answers (s : State) : (dropDelivery s).answers = s.answers := rfl
@[simp] theorem dropDelivery_draws (s : State) : (dropDelivery s).draws = s.draws := rfl
@[simp] theorem dropDelivery_actions (s : State) : (dropDelivery s).actions = s.actions := rfl
@[simp] theorem dropDelivery_params (s : State) : (dropDelivery s).params = s.params := rfl

/-! `setMarker` -/
@[simp] theorem setMarker_currentMag (v : Row) (s : State) : (setMarker v s).currentMag = s.currentMag := rfl
@[simp] theorem setMarker_currentPage (v : Row) (s : State) : (setMarker v s).currentPage = s.currentPage := rfl
@[simp] theorem setMarker_capturing (v : Row) (s : State) : (setMarker v s).capturing = s.capturing := rfl
@[simp] theorem setMarker_wasCapturing (v : Row) (s : State) : (setMarker v s).wasCapturing = s.wasCapturing := rfl
@[simp] theorem setMarker_seeking (v : Row) (s : State) : (setMarker v s).seeking = s.seeking := rfl
@[simp] theorem setMarker_lastSubcode (v : Row) (s : State) : (setMarker v s).lastSubcode = s.lastSubcode := rfl
@[simp] theorem setMarker_rowsSeen (v : Row) (s : State) : (setMarker v s).rowsSeen = s.rowsSeen := rfl
@[simp] theorem setMarker_elideRow (v : Row) (s : State) : (setMarker v s).elideRow = v := rfl
@[simp] theorem setMarker_holdMode (v : Row) (s : State) : (setMarker v s).holdMode = s.holdMode := rfl
@[simp] theorem setMarker_revealMode (v : Row) (s : State) : (setMarker v s).revealMode = s.revealMode := rfl
@[simp] theorem setMarker_suppressHeader (v : Row) (s : State) : (setMarker v s).suppressHeader = s.suppressHeader := rfl
@[simp] theorem setMarker_entryBuf (v : Row) (s : State) : (setMarker v s).entryBuf = s.entryBuf := rfl
@[simp] theorem setMarker_favoriteSlots (v : Row) (s : State) : (setMarker v s).favoriteSlots = s.favoriteSlots := rfl
@[simp] theorem setMarker_rowCounter (v : Row) (s : State) : (setMarker v s).rowCounter = s.rowCounter := rfl
@[simp] theorem setMarker_lastHeaderPacket (v : Row) (s : State) : (setMarker v s).lastHeaderPacket = s.lastHeaderPacket := rfl
@[simp] theorem setMarker_halted (v : Row) (s : State) : (setMarker v s).halted = s.halted := rfl
@[simp] theorem setMarker_haltCause (v : Row) (s : State) : (setMarker v s).haltCause = s.haltCause := rfl
@[simp] theorem setMarker_buffer (v : Row) (s : State) : (setMarker v s).buffer = s.buffer := rfl
@[simp] theorem setMarker_pkt (v : Row) (s : State) : (setMarker v s).pkt = s.pkt := rfl
@[simp] theorem setMarker_keys (v : Row) (s : State) : (setMarker v s).keys = s.keys := rfl
@[simp] theorem setMarker_messages (v : Row) (s : State) : (setMarker v s).messages = s.messages := rfl
@[simp] theorem setMarker_phase (v : Row) (s : State) : (setMarker v s).phase = s.phase := rfl
@[simp] theorem setMarker_turns (v : Row) (s : State) : (setMarker v s).turns = s.turns := rfl
@[simp] theorem setMarker_answers (v : Row) (s : State) : (setMarker v s).answers = s.answers := rfl
@[simp] theorem setMarker_draws (v : Row) (s : State) : (setMarker v s).draws = s.draws := rfl
@[simp] theorem setMarker_actions (v : Row) (s : State) : (setMarker v s).actions = s.actions := rfl
@[simp] theorem setMarker_params (v : Row) (s : State) : (setMarker v s).params = s.params := rfl

/-! `markSeen` -/
@[simp] theorem markSeen_currentMag (r : Row) (s : State) : (markSeen r s).currentMag = s.currentMag := rfl
@[simp] theorem markSeen_currentPage (r : Row) (s : State) : (markSeen r s).currentPage = s.currentPage := rfl
@[simp] theorem markSeen_capturing (r : Row) (s : State) : (markSeen r s).capturing = s.capturing := rfl
@[simp] theorem markSeen_wasCapturing (r : Row) (s : State) : (markSeen r s).wasCapturing = s.wasCapturing := rfl
@[simp] theorem markSeen_seeking (r : Row) (s : State) : (markSeen r s).seeking = s.seeking := rfl
@[simp] theorem markSeen_lastSubcode (r : Row) (s : State) : (markSeen r s).lastSubcode = s.lastSubcode := rfl
@[simp] theorem markSeen_rowsSeen (r : Row) (s : State) : (markSeen r s).rowsSeen = s.rowsSeen ||| (1#32 <<< r.toNat) := rfl
@[simp] theorem markSeen_elideRow (r : Row) (s : State) : (markSeen r s).elideRow = s.elideRow := rfl
@[simp] theorem markSeen_holdMode (r : Row) (s : State) : (markSeen r s).holdMode = s.holdMode := rfl
@[simp] theorem markSeen_revealMode (r : Row) (s : State) : (markSeen r s).revealMode = s.revealMode := rfl
@[simp] theorem markSeen_suppressHeader (r : Row) (s : State) : (markSeen r s).suppressHeader = s.suppressHeader := rfl
@[simp] theorem markSeen_entryBuf (r : Row) (s : State) : (markSeen r s).entryBuf = s.entryBuf := rfl
@[simp] theorem markSeen_favoriteSlots (r : Row) (s : State) : (markSeen r s).favoriteSlots = s.favoriteSlots := rfl
@[simp] theorem markSeen_rowCounter (r : Row) (s : State) : (markSeen r s).rowCounter = s.rowCounter := rfl
@[simp] theorem markSeen_lastHeaderPacket (r : Row) (s : State) : (markSeen r s).lastHeaderPacket = s.lastHeaderPacket := rfl
@[simp] theorem markSeen_halted (r : Row) (s : State) : (markSeen r s).halted = s.halted := rfl
@[simp] theorem markSeen_haltCause (r : Row) (s : State) : (markSeen r s).haltCause = s.haltCause := rfl
@[simp] theorem markSeen_buffer (r : Row) (s : State) : (markSeen r s).buffer = s.buffer := rfl
@[simp] theorem markSeen_pkt (r : Row) (s : State) : (markSeen r s).pkt = s.pkt := rfl
@[simp] theorem markSeen_keys (r : Row) (s : State) : (markSeen r s).keys = s.keys := rfl
@[simp] theorem markSeen_messages (r : Row) (s : State) : (markSeen r s).messages = s.messages := rfl
@[simp] theorem markSeen_phase (r : Row) (s : State) : (markSeen r s).phase = s.phase := rfl
@[simp] theorem markSeen_turns (r : Row) (s : State) : (markSeen r s).turns = s.turns := rfl
@[simp] theorem markSeen_answers (r : Row) (s : State) : (markSeen r s).answers = s.answers := rfl
@[simp] theorem markSeen_draws (r : Row) (s : State) : (markSeen r s).draws = s.draws := rfl
@[simp] theorem markSeen_actions (r : Row) (s : State) : (markSeen r s).actions = s.actions := rfl
@[simp] theorem markSeen_params (r : Row) (s : State) : (markSeen r s).params = s.params := rfl

/-! `countRow` -/
@[simp] theorem countRow_currentMag (s : State) : (countRow s).currentMag = s.currentMag := rfl
@[simp] theorem countRow_currentPage (s : State) : (countRow s).currentPage = s.currentPage := rfl
@[simp] theorem countRow_capturing (s : State) : (countRow s).capturing = s.capturing := rfl
@[simp] theorem countRow_wasCapturing (s : State) : (countRow s).wasCapturing = s.wasCapturing := rfl
@[simp] theorem countRow_seeking (s : State) : (countRow s).seeking = s.seeking := rfl
@[simp] theorem countRow_lastSubcode (s : State) : (countRow s).lastSubcode = s.lastSubcode := rfl
@[simp] theorem countRow_rowsSeen (s : State) : (countRow s).rowsSeen = s.rowsSeen := rfl
@[simp] theorem countRow_elideRow (s : State) : (countRow s).elideRow = s.elideRow := rfl
@[simp] theorem countRow_holdMode (s : State) : (countRow s).holdMode = s.holdMode := rfl
@[simp] theorem countRow_revealMode (s : State) : (countRow s).revealMode = s.revealMode := rfl
@[simp] theorem countRow_suppressHeader (s : State) : (countRow s).suppressHeader = s.suppressHeader := rfl
@[simp] theorem countRow_entryBuf (s : State) : (countRow s).entryBuf = s.entryBuf := rfl
@[simp] theorem countRow_favoriteSlots (s : State) : (countRow s).favoriteSlots = s.favoriteSlots := rfl
@[simp] theorem countRow_rowCounter (s : State) : (countRow s).rowCounter = s.rowCounter + 1 := rfl
@[simp] theorem countRow_lastHeaderPacket (s : State) : (countRow s).lastHeaderPacket = s.lastHeaderPacket := rfl
@[simp] theorem countRow_halted (s : State) : (countRow s).halted = s.halted := rfl
@[simp] theorem countRow_haltCause (s : State) : (countRow s).haltCause = s.haltCause := rfl
@[simp] theorem countRow_buffer (s : State) : (countRow s).buffer = s.buffer := rfl
@[simp] theorem countRow_pkt (s : State) : (countRow s).pkt = s.pkt := rfl
@[simp] theorem countRow_keys (s : State) : (countRow s).keys = s.keys := rfl
@[simp] theorem countRow_messages (s : State) : (countRow s).messages = s.messages := rfl
@[simp] theorem countRow_phase (s : State) : (countRow s).phase = s.phase := rfl
@[simp] theorem countRow_turns (s : State) : (countRow s).turns = s.turns := rfl
@[simp] theorem countRow_answers (s : State) : (countRow s).answers = s.answers := rfl
@[simp] theorem countRow_draws (s : State) : (countRow s).draws = s.draws := rfl
@[simp] theorem countRow_actions (s : State) : (countRow s).actions = s.actions := rfl
@[simp] theorem countRow_params (s : State) : (countRow s).params = s.params := rfl

/-! `dropAnswer` -/
@[simp] theorem dropAnswer_currentMag (s : State) : (dropAnswer s).currentMag = s.currentMag := by
  unfold dropAnswer; split <;> simp [*]
@[simp] theorem dropAnswer_currentPage (s : State) : (dropAnswer s).currentPage = s.currentPage := by
  unfold dropAnswer; split <;> simp [*]
@[simp] theorem dropAnswer_capturing (s : State) : (dropAnswer s).capturing = s.capturing := by
  unfold dropAnswer; split <;> simp [*]
@[simp] theorem dropAnswer_wasCapturing (s : State) : (dropAnswer s).wasCapturing = s.wasCapturing := by
  unfold dropAnswer; split <;> simp [*]
@[simp] theorem dropAnswer_seeking (s : State) : (dropAnswer s).seeking = s.seeking := by
  unfold dropAnswer; split <;> simp [*]
@[simp] theorem dropAnswer_lastSubcode (s : State) : (dropAnswer s).lastSubcode = s.lastSubcode := by
  unfold dropAnswer; split <;> simp [*]
@[simp] theorem dropAnswer_rowsSeen (s : State) : (dropAnswer s).rowsSeen = s.rowsSeen := by
  unfold dropAnswer; split <;> simp [*]
@[simp] theorem dropAnswer_elideRow (s : State) : (dropAnswer s).elideRow = s.elideRow := by
  unfold dropAnswer; split <;> simp [*]
@[simp] theorem dropAnswer_holdMode (s : State) : (dropAnswer s).holdMode = s.holdMode := by
  unfold dropAnswer; split <;> simp [*]
@[simp] theorem dropAnswer_revealMode (s : State) : (dropAnswer s).revealMode = s.revealMode := by
  unfold dropAnswer; split <;> simp [*]
@[simp] theorem dropAnswer_suppressHeader (s : State) : (dropAnswer s).suppressHeader = s.suppressHeader := by
  unfold dropAnswer; split <;> simp [*]
@[simp] theorem dropAnswer_entryBuf (s : State) : (dropAnswer s).entryBuf = s.entryBuf := by
  unfold dropAnswer; split <;> simp [*]
@[simp] theorem dropAnswer_favoriteSlots (s : State) : (dropAnswer s).favoriteSlots = s.favoriteSlots := by
  unfold dropAnswer; split <;> simp [*]
@[simp] theorem dropAnswer_rowCounter (s : State) : (dropAnswer s).rowCounter = s.rowCounter := by
  unfold dropAnswer; split <;> simp [*]
@[simp] theorem dropAnswer_lastHeaderPacket (s : State) : (dropAnswer s).lastHeaderPacket = s.lastHeaderPacket := by
  unfold dropAnswer; split <;> simp [*]
@[simp] theorem dropAnswer_halted (s : State) : (dropAnswer s).halted = s.halted := by
  unfold dropAnswer; split <;> simp [*]
@[simp] theorem dropAnswer_haltCause (s : State) : (dropAnswer s).haltCause = s.haltCause := by
  unfold dropAnswer; split <;> simp [*]
@[simp] theorem dropAnswer_buffer (s : State) : (dropAnswer s).buffer = s.buffer := by
  unfold dropAnswer; split <;> simp [*]
@[simp] theorem dropAnswer_pkt (s : State) : (dropAnswer s).pkt = s.pkt := by
  unfold dropAnswer; split <;> simp [*]
@[simp] theorem dropAnswer_keys (s : State) : (dropAnswer s).keys = s.keys := by
  unfold dropAnswer; split <;> simp [*]
@[simp] theorem dropAnswer_messages (s : State) : (dropAnswer s).messages = s.messages := by
  unfold dropAnswer; split <;> simp [*]
@[simp] theorem dropAnswer_phase (s : State) : (dropAnswer s).phase = s.phase := by
  unfold dropAnswer; split <;> simp [*]
@[simp] theorem dropAnswer_turns (s : State) : (dropAnswer s).turns = s.turns := by
  unfold dropAnswer; split <;> simp [*]
@[simp] theorem dropAnswer_answers (s : State) : (dropAnswer s).answers = s.answers.tail := by
  unfold dropAnswer; split <;> simp [*]
@[simp] theorem dropAnswer_draws (s : State) : (dropAnswer s).draws = if s.answers = [] then s.draws + 1 else s.draws := by
  unfold dropAnswer; split <;> simp [*]
@[simp] theorem dropAnswer_actions (s : State) : (dropAnswer s).actions = s.actions := by
  unfold dropAnswer; split <;> simp [*]
@[simp] theorem dropAnswer_params (s : State) : (dropAnswer s).params = s.params := by
  unfold dropAnswer; split <;> simp [*]

/-! `haltWith` -/
@[simp] theorem haltWith_currentMag (c : HaltCause) (s : State) : (haltWith c s).currentMag = s.currentMag := rfl
@[simp] theorem haltWith_currentPage (c : HaltCause) (s : State) : (haltWith c s).currentPage = s.currentPage := rfl
@[simp] theorem haltWith_capturing (c : HaltCause) (s : State) : (haltWith c s).capturing = s.capturing := rfl
@[simp] theorem haltWith_wasCapturing (c : HaltCause) (s : State) : (haltWith c s).wasCapturing = s.wasCapturing := rfl
@[simp] theorem haltWith_seeking (c : HaltCause) (s : State) : (haltWith c s).seeking = s.seeking := rfl
@[simp] theorem haltWith_lastSubcode (c : HaltCause) (s : State) : (haltWith c s).lastSubcode = s.lastSubcode := rfl
@[simp] theorem haltWith_rowsSeen (c : HaltCause) (s : State) : (haltWith c s).rowsSeen = s.rowsSeen := rfl
@[simp] theorem haltWith_elideRow (c : HaltCause) (s : State) : (haltWith c s).elideRow = s.elideRow := rfl
@[simp] theorem haltWith_holdMode (c : HaltCause) (s : State) : (haltWith c s).holdMode = s.holdMode := rfl
@[simp] theorem haltWith_revealMode (c : HaltCause) (s : State) : (haltWith c s).revealMode = s.revealMode := rfl
@[simp] theorem haltWith_suppressHeader (c : HaltCause) (s : State) : (haltWith c s).suppressHeader = s.suppressHeader := rfl
@[simp] theorem haltWith_entryBuf (c : HaltCause) (s : State) : (haltWith c s).entryBuf = s.entryBuf := rfl
@[simp] theorem haltWith_favoriteSlots (c : HaltCause) (s : State) : (haltWith c s).favoriteSlots = s.favoriteSlots := rfl
@[simp] theorem haltWith_rowCounter (c : HaltCause) (s : State) : (haltWith c s).rowCounter = s.rowCounter := rfl
@[simp] theorem haltWith_lastHeaderPacket (c : HaltCause) (s : State) : (haltWith c s).lastHeaderPacket = s.lastHeaderPacket := rfl
@[simp] theorem haltWith_halted (c : HaltCause) (s : State) : (haltWith c s).halted = true := rfl
@[simp] theorem haltWith_haltCause (c : HaltCause) (s : State) : (haltWith c s).haltCause = c := rfl
@[simp] theorem haltWith_buffer (c : HaltCause) (s : State) : (haltWith c s).buffer = s.buffer := rfl
@[simp] theorem haltWith_pkt (c : HaltCause) (s : State) : (haltWith c s).pkt = s.pkt := rfl
@[simp] theorem haltWith_keys (c : HaltCause) (s : State) : (haltWith c s).keys = s.keys := rfl
@[simp] theorem haltWith_messages (c : HaltCause) (s : State) : (haltWith c s).messages = s.messages := rfl
@[simp] theorem haltWith_phase (c : HaltCause) (s : State) : (haltWith c s).phase = s.phase := rfl
@[simp] theorem haltWith_turns (c : HaltCause) (s : State) : (haltWith c s).turns = s.turns := rfl
@[simp] theorem haltWith_answers (c : HaltCause) (s : State) : (haltWith c s).answers = s.answers := rfl
@[simp] theorem haltWith_draws (c : HaltCause) (s : State) : (haltWith c s).draws = s.draws := rfl
@[simp] theorem haltWith_actions (c : HaltCause) (s : State) : (haltWith c s).actions = s.actions := rfl
@[simp] theorem haltWith_params (c : HaltCause) (s : State) : (haltWith c s).params = s.params := rfl

/-! `tune` -/
@[simp] theorem tune_currentMag (m : Magazine) (p : Page) (s : State) : (tune m p s).currentMag = m := rfl
@[simp] theorem tune_currentPage (m : Magazine) (p : Page) (s : State) : (tune m p s).currentPage = p := rfl
@[simp] theorem tune_capturing (m : Magazine) (p : Page) (s : State) : (tune m p s).capturing = s.capturing := rfl
@[simp] theorem tune_wasCapturing (m : Magazine) (p : Page) (s : State) : (tune m p s).wasCapturing = s.wasCapturing := rfl
@[simp] theorem tune_seeking (m : Magazine) (p : Page) (s : State) : (tune m p s).seeking = true := rfl
@[simp] theorem tune_lastSubcode (m : Magazine) (p : Page) (s : State) : (tune m p s).lastSubcode = s.lastSubcode := rfl
@[simp] theorem tune_rowsSeen (m : Magazine) (p : Page) (s : State) : (tune m p s).rowsSeen = s.rowsSeen := rfl
@[simp] theorem tune_elideRow (m : Magazine) (p : Page) (s : State) : (tune m p s).elideRow = s.elideRow := rfl
@[simp] theorem tune_holdMode (m : Magazine) (p : Page) (s : State) : (tune m p s).holdMode = s.holdMode := rfl
@[simp] theorem tune_revealMode (m : Magazine) (p : Page) (s : State) : (tune m p s).revealMode = s.revealMode := rfl
@[simp] theorem tune_suppressHeader (m : Magazine) (p : Page) (s : State) : (tune m p s).suppressHeader = s.suppressHeader := rfl
@[simp] theorem tune_entryBuf (m : Magazine) (p : Page) (s : State) : (tune m p s).entryBuf = s.entryBuf := rfl
@[simp] theorem tune_favoriteSlots (m : Magazine) (p : Page) (s : State) : (tune m p s).favoriteSlots = s.favoriteSlots := rfl
@[simp] theorem tune_rowCounter (m : Magazine) (p : Page) (s : State) : (tune m p s).rowCounter = s.rowCounter := rfl
@[simp] theorem tune_lastHeaderPacket (m : Magazine) (p : Page) (s : State) : (tune m p s).lastHeaderPacket = s.lastHeaderPacket := rfl
@[simp] theorem tune_halted (m : Magazine) (p : Page) (s : State) : (tune m p s).halted = s.halted := rfl
@[simp] theorem tune_haltCause (m : Magazine) (p : Page) (s : State) : (tune m p s).haltCause = s.haltCause := rfl
@[simp] theorem tune_buffer (m : Magazine) (p : Page) (s : State) : (tune m p s).buffer = s.buffer := rfl
@[simp] theorem tune_pkt (m : Magazine) (p : Page) (s : State) : (tune m p s).pkt = s.pkt := rfl
@[simp] theorem tune_keys (m : Magazine) (p : Page) (s : State) : (tune m p s).keys = s.keys := rfl
@[simp] theorem tune_messages (m : Magazine) (p : Page) (s : State) : (tune m p s).messages = s.messages := rfl
@[simp] theorem tune_phase (m : Magazine) (p : Page) (s : State) : (tune m p s).phase = s.phase := rfl
@[simp] theorem tune_turns (m : Magazine) (p : Page) (s : State) : (tune m p s).turns = s.turns := rfl
@[simp] theorem tune_answers (m : Magazine) (p : Page) (s : State) : (tune m p s).answers = s.answers := rfl
@[simp] theorem tune_draws (m : Magazine) (p : Page) (s : State) : (tune m p s).draws = s.draws := rfl
@[simp] theorem tune_actions (m : Magazine) (p : Page) (s : State) : (tune m p s).actions = s.actions := rfl
@[simp] theorem tune_params (m : Magazine) (p : Page) (s : State) : (tune m p s).params = s.params := rfl

/-! `pushDigit` -/
@[simp] theorem pushDigit_currentMag (c : Byte) (s : State) : (pushDigit c s).currentMag = s.currentMag := rfl
@[simp] theorem pushDigit_currentPage (c : Byte) (s : State) : (pushDigit c s).currentPage = s.currentPage := rfl
@[simp] theorem pushDigit_capturing (c : Byte) (s : State) : (pushDigit c s).capturing = s.capturing := rfl
@[simp] theorem pushDigit_wasCapturing (c : Byte) (s : State) : (pushDigit c s).wasCapturing = s.wasCapturing := rfl
@[simp] theorem pushDigit_seeking (c : Byte) (s : State) : (pushDigit c s).seeking = s.seeking := rfl
@[simp] theorem pushDigit_lastSubcode (c : Byte) (s : State) : (pushDigit c s).lastSubcode = s.lastSubcode := rfl
@[simp] theorem pushDigit_rowsSeen (c : Byte) (s : State) : (pushDigit c s).rowsSeen = s.rowsSeen := rfl
@[simp] theorem pushDigit_elideRow (c : Byte) (s : State) : (pushDigit c s).elideRow = s.elideRow := rfl
@[simp] theorem pushDigit_holdMode (c : Byte) (s : State) : (pushDigit c s).holdMode = s.holdMode := rfl
@[simp] theorem pushDigit_revealMode (c : Byte) (s : State) : (pushDigit c s).revealMode = s.revealMode := rfl
@[simp] theorem pushDigit_suppressHeader (c : Byte) (s : State) : (pushDigit c s).suppressHeader = s.suppressHeader := rfl
@[simp] theorem pushDigit_entryBuf (c : Byte) (s : State) : (pushDigit c s).entryBuf = ⟨s.entryBuf.c1, s.entryBuf.c2, c⟩ := rfl
@[simp] theorem pushDigit_favoriteSlots (c : Byte) (s : State) : (pushDigit c s).favoriteSlots = s.favoriteSlots := rfl
@[simp] theorem pushDigit_rowCounter (c : Byte) (s : State) : (pushDigit c s).rowCounter = s.rowCounter := rfl
@[simp] theorem pushDigit_lastHeaderPacket (c : Byte) (s : State) : (pushDigit c s).lastHeaderPacket = s.lastHeaderPacket := rfl
@[simp] theorem pushDigit_halted (c : Byte) (s : State) : (pushDigit c s).halted = s.halted := rfl
@[simp] theorem pushDigit_haltCause (c : Byte) (s : State) : (pushDigit c s).haltCause = s.haltCause := rfl
@[simp] theorem pushDigit_buffer (c : Byte) (s : State) : (pushDigit c s).buffer = s.buffer := rfl
@[simp] theorem pushDigit_pkt (c : Byte) (s : State) : (pushDigit c s).pkt = s.pkt := rfl
@[simp] theorem pushDigit_keys (c : Byte) (s : State) : (pushDigit c s).keys = s.keys := rfl
@[simp] theorem pushDigit_messages (c : Byte) (s : State) : (pushDigit c s).messages = s.messages := rfl
@[simp] theorem pushDigit_phase (c : Byte) (s : State) : (pushDigit c s).phase = s.phase := rfl
@[simp] theorem pushDigit_turns (c : Byte) (s : State) : (pushDigit c s).turns = s.turns := rfl
@[simp] theorem pushDigit_answers (c : Byte) (s : State) : (pushDigit c s).answers = s.answers := rfl
@[simp] theorem pushDigit_draws (c : Byte) (s : State) : (pushDigit c s).draws = s.draws := rfl
@[simp] theorem pushDigit_actions (c : Byte) (s : State) : (pushDigit c s).actions = s.actions := rfl
@[simp] theorem pushDigit_params (c : Byte) (s : State) : (pushDigit c s).params = s.params := rfl

/-! `recomputeCapturing` -/
@[simp] theorem recomputeCapturing_currentMag (p : Packet) (s : State) : (recomputeCapturing p s).currentMag = s.currentMag := rfl
@[simp] theorem recomputeCapturing_currentPage (p : Packet) (s : State) : (recomputeCapturing p s).currentPage = s.currentPage := rfl
@[simp] theorem recomputeCapturing_capturing (p : Packet) (s : State) : (recomputeCapturing p s).capturing = decide (decodePageNumber p = s.currentPage) := rfl
@[simp] theorem recomputeCapturing_wasCapturing (p : Packet) (s : State) : (recomputeCapturing p s).wasCapturing = s.wasCapturing := rfl
@[simp] theorem recomputeCapturing_seeking (p : Packet) (s : State) : (recomputeCapturing p s).seeking = s.seeking := rfl
@[simp] theorem recomputeCapturing_lastSubcode (p : Packet) (s : State) : (recomputeCapturing p s).lastSubcode = s.lastSubcode := rfl
@[simp] theorem recomputeCapturing_rowsSeen (p : Packet) (s : State) : (recomputeCapturing p s).rowsSeen = s.rowsSeen := rfl
@[simp] theorem recomputeCapturing_elideRow (p : Packet) (s : State) : (recomputeCapturing p s).elideRow = s.elideRow := rfl
@[simp] theorem recomputeCapturing_holdMode (p : Packet) (s : State) : (recomputeCapturing p s).holdMode = s.holdMode := rfl
@[simp] theorem recomputeCapturing_revealMode (p : Packet) (s : State) : (recomputeCapturing p s).revealMode = s.revealMode := rfl
@[simp] theorem recomputeCapturing_suppressHeader (p : Packet) (s : State) : (recomputeCapturing p s).suppressHeader = s.suppressHeader := rfl
@[simp] theorem recomputeCapturing_entryBuf (p : Packet) (s : State) : (recomputeCapturing p s).entryBuf = s.entryBuf := rfl
@[simp] theorem recomputeCapturing_favoriteSlots (p : Packet) (s : State) : (recomputeCapturing p s).favoriteSlots = s.favoriteSlots := rfl
@[simp] theorem recomputeCapturing_rowCounter (p : Packet) (s : State) : (recomputeCapturing p s).rowCounter = s.rowCounter := rfl
@[simp] theorem recomputeCapturing_lastHeaderPacket (p : Packet) (s : State) : (recomputeCapturing p s).lastHeaderPacket = s.lastHeaderPacket := rfl
@[simp] theorem recomputeCapturing_halted (p : Packet) (s : State) : (recomputeCapturing p s).halted = s.halted := rfl
@[simp] theorem recomputeCapturing_haltCause (p : Packet) (s : State) : (recomputeCapturing p s).haltCause = s.haltCause := rfl
@[simp] theorem recomputeCapturing_buffer (p : Packet) (s : State) : (recomputeCapturing p s).buffer = s.buffer := rfl
@[simp] theorem recomputeCapturing_pkt (p : Packet) (s : State) : (recomputeCapturing p s).pkt = s.pkt := rfl
@[simp] theorem recomputeCapturing_keys (p : Packet) (s : State) : (recomputeCapturing p s).keys = s.keys := rfl
@[simp] theorem recomputeCapturing_messages (p : Packet) (s : State) : (recomputeCapturing p s).messages = s.messages := rfl
@[simp] theorem recomputeCapturing_phase (p : Packet) (s : State) : (recomputeCapturing p s).phase = s.phase := rfl
@[simp] theorem recomputeCapturing_turns (p : Packet) (s : State) : (recomputeCapturing p s).turns = s.turns := rfl
@[simp] theorem recomputeCapturing_answers (p : Packet) (s : State) : (recomputeCapturing p s).answers = s.answers := rfl
@[simp] theorem recomputeCapturing_draws (p : Packet) (s : State) : (recomputeCapturing p s).draws = s.draws := rfl
@[simp] theorem recomputeCapturing_actions (p : Packet) (s : State) : (recomputeCapturing p s).actions = s.actions := rfl
@[simp] theorem recomputeCapturing_params (p : Packet) (s : State) : (recomputeCapturing p s).params = s.params := rfl

/-! `setWasCapturing` -/
@[simp] theorem setWasCapturing_currentMag (v : Bool) (s : State) : (setWasCapturing v s).currentMag = s.currentMag := rfl
@[simp] theorem setWasCapturing_currentPage (v : Bool) (s : State) : (setWasCapturing v s).currentPage = s.currentPage := rfl
@[simp] theorem setWasCapturing_capturing (v : Bool) (s : State) : (setWasCapturing v s).capturing = s.capturing := rfl
@[simp] theorem setWasCapturing_wasCapturing (v : Bool) (s : State) : (setWasCapturing v s).wasCapturing = v := rfl
@[simp] theorem setWasCapturing_seeking (v : Bool) (s : State) : (setWasCapturing v s).seeking = s.seeking := rfl
@[simp] theorem setWasCapturing_lastSubcode (v : Bool) (s : State) : (setWasCapturing v s).lastSubcode = s.lastSubcode := rfl
@[simp] theorem setWasCapturing_rowsSeen (v : Bool) (s : State) : (setWasCapturing v s).rowsSeen = s.rowsSeen := rfl
@[simp] theorem setWasCapturing_elideRow (v : Bool) (s : State) : (setWasCapturing v s).elideRow = s.elideRow := rfl
@[simp] theorem setWasCapturing_holdMode (v : Bool) (s : State) : (setWasCapturing v s).holdMode = s.holdMode := rfl
@[simp] theorem setWasCapturing_revealMode (v : Bool) (s : State) : (setWasCapturing v s).revealMode = s.revealMode := rfl
@[simp] theorem setWasCapturing_suppressHeader (v : Bool) (s : State) : (setWasCapturing v s).suppressHeader = s.suppressHeader := rfl
@[simp] theorem setWasCapturing_entryBuf (v : Bool) (s : State) : (setWasCapturing v s).entryBuf = s.entryBuf := rfl
@[simp] theorem setWasCapturing_favoriteSlots (v : Bool) (s : State) : (setWasCapturing v s).favoriteSlots = s.favoriteSlots := rfl
@[simp] theorem setWasCapturing_rowCounter (v : Bool) (s : State) : (setWasCapturing v s).rowCounter = s.rowCounter := rfl
@[simp] theorem setWasCapturing_lastHeaderPacket (v : Bool) (s : State) : (setWasCapturing v s).lastHeaderPacket = s.lastHeaderPacket := rfl
@[simp] theorem setWasCapturing_halted (v : Bool) (s : State) : (setWasCapturing v s).halted = s.halted := rfl
@[simp] theorem setWasCapturing_haltCause (v : Bool) (s : State) : (setWasCapturing v s).haltCause = s.haltCause := rfl
@[simp] theorem setWasCapturing_buffer (v : Bool) (s : State) : (setWasCapturing v s).buffer = s.buffer := rfl
@[simp] theorem setWasCapturing_pkt (v : Bool) (s : State) : (setWasCapturing v s).pkt = s.pkt := rfl
@[simp] theorem setWasCapturing_keys (v : Bool) (s : State) : (setWasCapturing v s).keys = s.keys := rfl
@[simp] theorem setWasCapturing_messages (v : Bool) (s : State) : (setWasCapturing v s).messages = s.messages := rfl
@[simp] theorem setWasCapturing_phase (v : Bool) (s : State) : (setWasCapturing v s).phase = s.phase := rfl
@[simp] theorem setWasCapturing_turns (v : Bool) (s : State) : (setWasCapturing v s).turns = s.turns := rfl
@[simp] theorem setWasCapturing_answers (v : Bool) (s : State) : (setWasCapturing v s).answers = s.answers := rfl
@[simp] theorem setWasCapturing_draws (v : Bool) (s : State) : (setWasCapturing v s).draws = s.draws := rfl
@[simp] theorem setWasCapturing_actions (v : Bool) (s : State) : (setWasCapturing v s).actions = s.actions := rfl
@[simp] theorem setWasCapturing_params (v : Bool) (s : State) : (setWasCapturing v s).params = s.params := rfl

/-! `clearSeeking` -/
@[simp] theorem clearSeeking_currentMag (s : State) : (clearSeeking s).currentMag = s.currentMag := rfl
@[simp] theorem clearSeeking_currentPage (s : State) : (clearSeeking s).currentPage = s.currentPage := rfl
@[simp] theorem clearSeeking_capturing (s : State) : (clearSeeking s).capturing = s.capturing := rfl
@[simp] theorem clearSeeking_wasCapturing (s : State) : (clearSeeking s).wasCapturing = s.wasCapturing := rfl
@[simp] theorem clearSeeking_seeking (s : State) : (clearSeeking s).seeking = false := rfl
@[simp] theorem clearSeeking_lastSubcode (s : State) : (clearSeeking s).lastSubcode = s.lastSubcode := rfl
@[simp] theorem clearSeeking_rowsSeen (s : State) : (clearSeeking s).rowsSeen = s.rowsSeen := rfl
@[simp] theorem clearSeeking_elideRow (s : State) : (clearSeeking s).elideRow = s.elideRow := rfl
@[simp] theorem clearSeeking_holdMode (s : State) : (clearSeeking s).holdMode = s.holdMode := rfl
@[simp] theorem clearSeeking_revealMode (s : State) : (clearSeeking s).revealMode = s.revealMode := rfl
@[simp] theorem clearSeeking_suppressHeader (s : State) : (clearSeeking s).suppressHeader = s.suppressHeader := rfl
@[simp] theorem clearSeeking_entryBuf (s : State) : (clearSeeking s).entryBuf = s.entryBuf := rfl
@[simp] theorem clearSeeking_favoriteSlots (s : State) : (clearSeeking s).favoriteSlots = s.favoriteSlots := rfl
@[simp] theorem clearSeeking_rowCounter (s : State) : (clearSeeking s).rowCounter = s.rowCounter := rfl
@[simp] theorem clearSeeking_lastHeaderPacket (s : State) : (clearSeeking s).lastHeaderPacket = s.lastHeaderPacket := rfl
@[simp] theorem clearSeeking_halted (s : State) : (clearSeeking s).halted = s.halted := rfl
@[simp] theorem clearSeeking_haltCause (s : State) : (clearSeeking s).haltCause = s.haltCause := rfl
@[simp] theorem clearSeeking_buffer (s : State) : (clearSeeking s).buffer = s.buffer := rfl
@[simp] theorem clearSeeking_pkt (s : State) : (clearSeeking s).pkt = s.pkt := rfl
@[simp] theorem clearSeeking_keys (s : State) : (clearSeeking s).keys = s.keys := rfl
@[simp] theorem clearSeeking_messages (s : State) : (clearSeeking s).messages = s.messages := rfl
@[simp] theorem clearSeeking_phase (s : State) : (clearSeeking s).phase = s.phase := rfl
@[simp] theorem clearSeeking_turns (s : State) : (clearSeeking s).turns = s.turns := rfl
@[simp] theorem clearSeeking_answers (s : State) : (clearSeeking s).answers = s.answers := rfl
@[simp] theorem clearSeeking_draws (s : State) : (clearSeeking s).draws = s.draws := rfl
@[simp] theorem clearSeeking_actions (s : State) : (clearSeeking s).actions = s.actions := rfl
@[simp] theorem clearSeeking_params (s : State) : (clearSeeking s).params = s.params := rfl

/-! `setSuppress` -/
@[simp] theorem setSuppress_currentMag (v : Bool) (s : State) : (setSuppress v s).currentMag = s.currentMag := rfl
@[simp] theorem setSuppress_currentPage (v : Bool) (s : State) : (setSuppress v s).currentPage = s.currentPage := rfl
@[simp] theorem setSuppress_capturing (v : Bool) (s : State) : (setSuppress v s).capturing = s.capturing := rfl
@[simp] theorem setSuppress_wasCapturing (v : Bool) (s : State) : (setSuppress v s).wasCapturing = s.wasCapturing := rfl
@[simp] theorem setSuppress_seeking (v : Bool) (s : State) : (setSuppress v s).seeking = s.seeking := rfl
@[simp] theorem setSuppress_lastSubcode (v : Bool) (s : State) : (setSuppress v s).lastSubcode = s.lastSubcode := rfl
@[simp] theorem setSuppress_rowsSeen (v : Bool) (s : State) : (setSuppress v s).rowsSeen = s.rowsSeen := rfl
@[simp] theorem setSuppress_elideRow (v : Bool) (s : State) : (setSuppress v s).elideRow = s.elideRow := rfl
@[simp] theorem setSuppress_holdMode (v : Bool) (s : State) : (setSuppress v s).holdMode = s.holdMode := rfl
@[simp] theorem setSuppress_revealMode (v : Bool) (s : State) : (setSuppress v s).revealMode = s.revealMode := rfl
@[simp] theorem setSuppress_suppressHeader (v : Bool) (s : State) : (setSuppress v s).suppressHeader = v := rfl
@[simp] theorem setSuppress_entryBuf (v : Bool) (s : State) : (setSuppress v s).entryBuf = s.entryBuf := rfl
@[simp] theorem setSuppress_favoriteSlots (v : Bool) (s : State) : (setSuppress v s).favoriteSlots = s.favoriteSlots := rfl
@[simp] theorem setSuppress_rowCounter (v : Bool) (s : State) : (setSuppress v s).rowCounter = s.rowCounter := rfl
@[simp] theorem setSuppress_lastHeaderPacket (v : Bool) (s : State) : (setSuppress v s).lastHeaderPacket = s.lastHeaderPacket := rfl
@[simp] theorem setSuppress_halted (v : Bool) (s : State) : (setSuppress v s).halted = s.halted := rfl
@[simp] theorem setSuppress_haltCause (v : Bool) (s : State) : (setSuppress v s).haltCause = s.haltCause := rfl
@[simp] theorem setSuppress_buffer (v : Bool) (s : State) : (setSuppress v s).buffer = s.buffer := rfl
@[simp] theorem setSuppress_pkt (v : Bool) (s : State) : (setSuppress v s).pkt = s.pkt := rfl
@[simp] theorem setSuppress_keys (v : Bool) (s : State) : (setSuppress v s).keys = s.keys := rfl
@[simp] theorem setSuppress_messages (v : Bool) (s : State) : (setSuppress v s).messages = s.messages := rfl
@[simp] theorem setSuppress_phase (v : Bool) (s : State) : (setSuppress v s).phase = s.phase := rfl
@[simp] theorem setSuppress_turns (v : Bool) (s : State) : (setSuppress v s).turns = s.turns := rfl
@[simp] theorem setSuppress_answers (v : Bool) (s : State) : (setSuppress v s).answers = s.answers := rfl
@[simp] theorem setSuppress_draws (v : Bool) (s : State) : (setSuppress v s).draws = s.draws := rfl
@[simp] theorem setSuppress_actions (v : Bool) (s : State) : (setSuppress v s).actions = s.actions := rfl
@[simp] theorem setSuppress_params (v : Bool) (s : State) : (setSuppress v s).params = s.params := rfl

/-! `toggleHold` -/
@[simp] theorem toggleHold_currentMag (s : State) : (toggleHold s).currentMag = s.currentMag := rfl
@[simp] theorem toggleHold_currentPage (s : State) : (toggleHold s).currentPage = s.currentPage := rfl
@[simp] theorem toggleHold_capturing (s : State) : (toggleHold s).capturing = s.capturing := rfl
@[simp] theorem toggleHold_wasCapturing (s : State) : (toggleHold s).wasCapturing = s.wasCapturing := rfl
@[simp] theorem toggleHold_seeking (s : State) : (toggleHold s).seeking = s.seeking := rfl
@[simp] theorem toggleHold_lastSubcode (s : State) : (toggleHold s).lastSubcode = s.lastSubcode := rfl
@[simp] theorem toggleHold_rowsSeen (s : State) : (toggleHold s).rowsSeen = s.rowsSeen := rfl
@[simp] theorem toggleHold_elideRow (s : State) : (toggleHold s).elideRow = s.elideRow := rfl
@[simp] theorem toggleHold_holdMode (s : State) : (toggleHold s).holdMode = !s.holdMode := rfl
@[simp] theorem toggleHold_revealMode (s : State) : (toggleHold s).revealMode = s.revealMode := rfl
@[simp] theorem toggleHold_suppressHeader (s : State) : (toggleHold s).suppressHeader = s.suppressHeader := rfl
@[simp] theorem toggleHold_entryBuf (s : State) : (toggleHold s).entryBuf = s.entryBuf := rfl
@[simp] theorem toggleHold_favoriteSlots (s : State) : (toggleHold s).favoriteSlots = s.favoriteSlots := rfl
@[simp] theorem toggleHold_rowCounter (s : State) : (toggleHold s).rowCounter = s.rowCounter := rfl
@[simp] theorem toggleHold_lastHeaderPacket (s : State) : (toggleHold s).lastHeaderPacket = s.lastHeaderPacket := rfl
@[simp] theorem toggleHold_halted (s : State) : (toggleHold s).halted = s.halted := rfl
@[simp] theorem toggleHold_haltCause (s : State) : (toggleHold s).haltCause = s.haltCause := rfl
@[simp] theorem toggleHold_buffer (s : State) : (toggleHold s).buffer = s.buffer := rfl
@[simp] theorem toggleHold_pkt (s : State) : (toggleHold s).pkt = s.pkt := rfl
@[simp] theorem toggleHold_keys (s : State) : (toggleHold s).keys = s.keys := rfl
@[simp] theorem toggleHold_messages (s : State) : (toggleHold s).messages = s.messages := rfl
@[simp] theorem toggleHold_phase (s : State) : (toggleHold s).phase = s.phase := rfl
@[simp] theorem toggleHold_turns (s : State) : (toggleHold s).turns = s.turns := rfl
@[simp] theorem toggleHold_answers (s : State) : (toggleHold s).answers = s.answers := rfl
@[simp] theorem toggleHold_draws (s : State) : (toggleHold s).draws = s.draws := rfl
@[simp] theorem toggleHold_actions (s : State) : (toggleHold s).actions = s.actions := rfl
@[simp] theorem toggleHold_params (s : State) : (toggleHold s).params = s.params := rfl

/-! `beginStep` -/
@[simp] theorem beginStep_currentMag (s : State) : (beginStep s).currentMag = s.currentMag := by
  unfold beginStep; split <;> simp [*]
@[simp] theorem beginStep_currentPage (s : State) : (beginStep s).currentPage = s.currentPage := by
  unfold beginStep; split <;> simp [*]
@[simp] theorem beginStep_capturing (s : State) : (beginStep s).capturing = s.capturing := by
  unfold beginStep; split <;> simp [*]
@[simp] theorem beginStep_wasCapturing (s : State) : (beginStep s).wasCapturing = s.wasCapturing := by
  unfold beginStep; split <;> simp [*]
@[simp] theorem beginStep_seeking (s : State) : (beginStep s).seeking = s.seeking := by
  unfold beginStep; split <;> simp [*]
@[simp] theorem beginStep_lastSubcode (s : State) : (beginStep s).lastSubcode = s.lastSubcode := by
  unfold beginStep; split <;> simp [*]
@[simp] theorem beginStep_rowsSeen (s : State) : (beginStep s).rowsSeen = s.rowsSeen := by
  unfold beginStep; split <;> simp [*]
@[simp] theorem beginStep_elideRow (s : State) : (beginStep s).elideRow = s.elideRow := by
  unfold beginStep; split <;> simp [*]
@[simp] theorem beginStep_holdMode (s : State) : (beginStep s).holdMode = s.holdMode := by
  unfold beginStep; split <;> simp [*]
@[simp] theorem beginStep_revealMode (s : State) : (beginStep s).revealMode = s.revealMode := by
  unfold beginStep; split <;> simp [*]
@[simp] theorem beginStep_suppressHeader (s : State) : (beginStep s).suppressHeader = s.suppressHeader := by
  unfold beginStep; split <;> simp [*]
@[simp] theorem beginStep_entryBuf (s : State) : (beginStep s).entryBuf = s.entryBuf := by
  unfold beginStep; split <;> simp [*]
@[simp] theorem beginStep_favoriteSlots (s : State) : (beginStep s).favoriteSlots = s.favoriteSlots := by
  unfold beginStep; split <;> simp [*]
@[simp] theorem beginStep_rowCounter (s : State) : (beginStep s).rowCounter = s.rowCounter := by
  unfold beginStep; split <;> simp [*]
@[simp] theorem beginStep_lastHeaderPacket (s : State) : (beginStep s).lastHeaderPacket = s.lastHeaderPacket := by
  unfold beginStep; split <;> simp [*]
@[simp] theorem beginStep_halted (s : State) : (beginStep s).halted = s.halted := by
  unfold beginStep; split <;> simp [*]
@[simp] theorem beginStep_haltCause (s : State) : (beginStep s).haltCause = s.haltCause := by
  unfold beginStep; split <;> simp [*]
@[simp] theorem beginStep_buffer (s : State) : (beginStep s).buffer = s.buffer := by
  unfold beginStep; split <;> simp [*]
@[simp] theorem beginStep_pkt (s : State) : (beginStep s).pkt = s.pkt := by
  unfold beginStep; split <;> simp [*]
@[simp] theorem beginStep_keys (s : State) : (beginStep s).keys = s.keys := by
  unfold beginStep; split <;> simp [*]
@[simp] theorem beginStep_messages (s : State) : (beginStep s).messages = s.messages := by
  unfold beginStep; split <;> simp [*]
@[simp] theorem beginStep_phase (s : State) : (beginStep s).phase = if s.turns = [] then nextPhase s.phase else s.phase := by
  unfold beginStep; split <;> simp [*]
@[simp] theorem beginStep_turns (s : State) : (beginStep s).turns = s.turns.tail := by
  unfold beginStep; split <;> simp [*]
@[simp] theorem beginStep_answers (s : State) : (beginStep s).answers = s.answers := by
  unfold beginStep; split <;> simp [*]
@[simp] theorem beginStep_draws (s : State) : (beginStep s).draws = s.draws := by
  unfold beginStep; split <;> simp [*]
@[simp] theorem beginStep_actions (s : State) : (beginStep s).actions = [] := by
  unfold beginStep; split <;> simp [*]
@[simp] theorem beginStep_params (s : State) : (beginStep s).params = s.params := by
  unfold beginStep; split <;> simp [*]

end Sys2Proof.Machine
end

