-- ==== Sys2Proof/Laws/Ops.lean ====
section
/-! SUPPORT. What the shared operations answer, each said once. -/

namespace Sys2Proof.Machine

@[simp] theorem andThen_next (s : State) (f : State → Result) : andThen (.next s) f = f s := rfl
@[simp] theorem andThen_fault (e : Fault) (f : State → Result) : andThen (.fault e) f = .fault e := rfl
@[simp] theorem andThen_refused (e : Refusal) (f : State → Result) :
    andThen (.refused e) f = .refused e := rfl
@[simp] theorem mapNext_next (s : State) (f : State → State) : mapNext f (.next s) = .next (f s) := rfl
@[simp] theorem mapNext_fault (e : Fault) (f : State → State) : mapNext f (.fault e) = .fault e := rfl
@[simp] theorem mapNext_refused (e : Refusal) (f : State → State) :
    mapNext f (.refused e) = .refused e := rfl

/-- A changed outcome is a next state exactly when the outcome is one. -/
theorem mapNext_eq_next {f : State → State} {r : Result} {t : State} :
    mapNext f r = .next t ↔ ∃ u, r = .next u ∧ t = f u := by
  cases r <;> simp [eq_comm]

theorem whenRunning_running {s : State} (h : s.halted = false) (r : Result) : whenRunning s r = r := by
  simp [whenRunning, h]

theorem whenRunning_halted {s : State} (h : s.halted = true) (r : Result) :
    whenRunning s r = .fault .halted := by
  simp [whenRunning, h]

/-- A guarded outcome is a next state only while running. -/
theorem whenRunning_eq_next {s t : State} {r : Result} :
    whenRunning s r = .next t ↔ s.halted = false ∧ r = .next t := by
  cases h : s.halted <;> simp [whenRunning, h]

/-- Everything the packet step can do: stuck, dropped, or the engine's transition. -/
theorem packetStep_cases (p : Packet) (f : State → State) (s : State) :
    (s.halted = true ∧ packetStep p f s = .fault .halted) ∨
    (s.halted = false ∧ magazineOf p ≠ s.currentMag ∧ packetStep p f s = .next s) ∨
    (Accepts s p ∧ packetStep p f s = .next (f s)) := by
  cases h : s.halted
  · by_cases hm : magazineOf p = s.currentMag
    · exact .inr (.inr ⟨⟨h, hm⟩, by simp [packetStep, whenRunning, h, hm]⟩)
    · exact .inr (.inl ⟨rfl, hm, by simp [packetStep, whenRunning, h, hm]⟩)
  · exact .inl ⟨rfl, by simp [packetStep, whenRunning, h]⟩

theorem packetStep_accepted {s : State} {p : Packet} (h : Accepts s p) (f : State → State) :
    packetStep p f s = .next (f s) := by
  simp [packetStep, whenRunning, h.running, h.magazine]

theorem packetStep_dropped {s : State} {p : Packet} (h : s.halted = false)
    (hm : magazineOf p ≠ s.currentMag) (f : State → State) : packetStep p f s = .next s := by
  simp [packetStep, whenRunning, h, hm]

theorem packetStep_halted {s : State} (h : s.halted = true) (p : Packet) (f : State → State) :
    packetStep p f s = .fault .halted := by
  simp [packetStep, whenRunning, h]

theorem legalMagazine_iff (m : Magazine) : legalMagazine m = true ↔ 1 ≤ m.toNat ∧ m.toNat ≤ 8 := by
  simp [legalMagazine, BitVec.le_def]

/-- Everything `SET_TUNE` can do. -/
theorem setTune_cases (m : Magazine) (p : Page) (s : State) :
    (legalMagazine m = true ∧ setTune m p s = .next (tune m p s)) ∨
    (legalMagazine m = false ∧ setTune m p s = .refused .magazineOutOfRange) := by
  cases h : legalMagazine m <;> simp [setTune, h]

/-- A front character that tunes names a magazine of 1..8. -/
theorem frontTunes_legal {b : EntryBuf} (h : frontTunes b = true) :
    legalMagazine (entryMagazine b) = true := by
  have key : ∀ c : Byte, 0x31#8 ≤ c → c ≤ 0x38#8 →
      legalMagazine ((c - 0x30#8).setWidth 4) = true := by decide
  simp only [frontTunes, Bool.and_eq_true, decide_eq_true_eq] at h
  exact key b.c0 h.1 h.2

/-- Everything a digit can do: it always answers a next state. -/
theorem digitStep_eq (c : Byte) (s : State) :
    digitStep c s = .next
      (if frontTunes (pushDigit c s).entryBuf then
        emit (.echoTypingHeader (pushDigit c s).entryBuf)
          (tune (entryMagazine (pushDigit c s).entryBuf) (entryPage (pushDigit c s).entryBuf)
            (pushDigit c s))
      else pushDigit c s) := by
  unfold digitStep
  by_cases h : frontTunes (pushDigit c s).entryBuf = true
  · simp only [h, if_true, setTune, frontTunes_legal h, mapNext_next]
  · simp only [h]; rfl

/-- Everything a favourite recall can do. -/
theorem favouriteStep_cases (k : Fin 4) (s : State) :
    (legalMagazine (favourite s.favoriteSlots k).mag = true ∧
      favouriteStep k s = .next (emit .rendererClear
        (tune (favourite s.favoriteSlots k).mag (favourite s.favoriteSlots k).page s))) ∨
    (legalMagazine (favourite s.favoriteSlots k).mag = false ∧
      favouriteStep k s = .refused .magazineOutOfRange) := by
  cases h : legalMagazine (favourite s.favoriteSlots k).mag <;> simp [favouriteStep, setTune, h]

/-- A full delivery decodes to the packet of its row. -/
theorem decode_full (keys : FavKeys) (bs : List Byte) (h : bs.length = 42) :
    decode keys (.packet bs) = .ok (decodePacket ⟨bs, h⟩) := by
  simp [decode, h]

theorem decode_short (keys : FavKeys) (bs : List Byte) (h : bs.length < 42) :
    decode keys (.packet bs) = .error (.shortPacket bs.length) := by
  have h2 : bs.length ≠ 42 := by omega
  simp [decode, h, h2]

/-- A packet turn runs the instruction the delivery's bytes decode to. -/
theorem servePacket_ok {s : State} {i : Instr}
    (h : decode s.params.favKeys (.packet (nextDelivery s).bytes) = .ok i) :
    servePacket s = mapNext releaseBuffer (exec i (fillBuffer (nextDelivery s) (dropDelivery s))) := by
  simp [servePacket, h]

/-- A packet turn whose delivery is no packet is fatal. -/
theorem servePacket_error {s : State} {e : Reject}
    (h : decode s.params.favKeys (.packet (nextDelivery s).bytes) = .error e) :
    servePacket s =
      .next (releaseBuffer (raiseFatalIngest (fillBuffer (nextDelivery s) (dropDelivery s)))) := by
  simp [servePacket, h]

theorem raiseFatalIngest_eq (s : State) :
    ∃ rest : List Action, (rest = [] ∨ rest = [.cleanup]) ∧
      raiseFatalIngest s = { s with
        halted := true, haltCause := .shortPacket, actions := s.actions ++ .logFatal :: rest } := by
  refine ⟨if Config.cleanupAfterFatal then [.cleanup] else [], ?_, ?_⟩
  · split <;> simp
  · simp [raiseFatalIngest, emitAll, haltWith, emit]

theorem acknowledge_running {s : State} (h : s.halted = false) : acknowledge s = emit .ack s := by
  simp [acknowledge, h, emitAll, emit]

end Sys2Proof.Machine
end

