-- ==== Sys2Proof/Laws/Engine.lean ====
section
/-! SUPPORT. The engine's transitions, one equation per case. -/

namespace Sys2Proof.Machine

theorem headerStep_held {s : State} (h : s.holdMode = true) (p : Packet) :
    headerStep p s = emit (.paintHoldHeader p) (setMarker 0 s) := by
  simp [headerStep, h]

theorem headerStep_live {s : State} (h : s.holdMode = false) (p : Packet) :
    headerStep p s = headerLive p (setMarker 0 s) := by
  simp [headerStep, h]

theorem headerMatched_eq (p : Packet) (s : State) :
    headerMatched p s = { s with
      rowCounter := 0
      lastHeaderPacket := p
      seeking := false
      suppressHeader := decodeControlFlag p
      rowsSeen := if decodeSubcode p = s.lastSubcode then s.rowsSeen else 0
      lastSubcode := decodeSubcode p
      actions := s.actions ++ if decodeSubcode p = s.lastSubcode then [] else [.rendererClear]
      wasCapturing := true } := by
  by_cases h : decodeSubcode p = s.lastSubcode
  · simp [headerMatched, setWasCapturing, setSuppress, clearSeeking, h]
  · simp [headerMatched, setWasCapturing, setSuppress, clearSeeking, newSubpage, emit, h]

theorem headerMissed_eq (s : State) :
    headerMissed s = { s with
      wasCapturing := false
      rowsSeen := if s.wasCapturing then 0 else s.rowsSeen
      actions := s.actions ++ if s.wasCapturing then (unseenRows s).map .blankRow else [] } := by
  cases h : s.wasCapturing <;> simp [headerMissed, setWasCapturing, emitAll, h]
  rw [← h]

theorem headerSeeking_eq (s : State) :
    headerSeeking s = { s with
      suppressHeader := if s.seeking then false else s.suppressHeader
      actions := s.actions ++ if s.seeking then [.colorReset] else [] } := by
  cases h : s.seeking <;> simp [headerSeeking, setSuppress, emit, h]
  rw [← h]

theorem rowStep_marked {s : State} {row : Row} (h : s.elideRow = row) (p : Packet) :
    rowStep p row s = setMarker 0 (emit .idlePump s) := by
  simp [rowStep, h]

theorem rowStep_idle {s : State} {row : Row} (h : s.elideRow ≠ row) (hc : s.capturing = false)
    (p : Packet) : rowStep p row s = s := by
  simp [rowStep, h, hc]

theorem rowStep_capture {s : State} {row : Row} (h : s.elideRow ≠ row) (hc : s.capturing = true)
    (p : Packet) : rowStep p row s = captureRow p row s := by
  simp [rowStep, h, hc]

theorem paintText_eq (p : Packet) (row : Row) (s : State) :
    paintText p row s = { s with
      answers := s.answers.tail
      draws := if s.answers = [] then s.draws + 1 else s.draws
      elideRow := if nextAnswer s then row + 1#5 else s.elideRow
      rowCounter := s.rowCounter + 1
      actions := s.actions ++ [.paintRow p row] } := by
  simp only [paintText, dropAnswer, emit, setMarker, countRow]
  cases hh : s.answers <;> simp

theorem captureRow_text {row : Row} (h : row.toNat ≤ 24) (p : Packet) (s : State) :
    captureRow p row s = paintText p row (markSeen row s) := by
  have h6 : row ≠ 26#5 := by rintro rfl; simp at h
  have h7 : row ≠ 27#5 := by rintro rfl; simp at h
  have h8 : row ≠ 28#5 := by rintro rfl; simp at h
  simp [captureRow, h, h6, h7, h8, Config.lastTextRow]

theorem captureRow_meta {row : Row} (h : row = 26#5 ∨ row = 28#5) (p : Packet) (s : State) :
    captureRow p row s = emit (.metaDecode p row) (markSeen row s) := by
  rcases h with rfl | rfl <;> simp [captureRow, Config.lastTextRow]

theorem captureRow_link (p : Packet) (s : State) :
    captureRow p 27#5 s = emit (.linkDecode p) (markSeen 27#5 s) := by
  simp [captureRow, Config.lastTextRow]

theorem captureRow_ignored {row : Row} (h : row = 25#5 ∨ 29 ≤ row.toNat) (p : Packet) (s : State) :
    captureRow p row s = markSeen row s := by
  have h0 : ¬ row.toNat ≤ 24 := by
    rcases h with rfl | h
    · simp
    · omega
  have h6 : row ≠ 26#5 := by rintro rfl; simp at h
  have h7 : row ≠ 27#5 := by rintro rfl; simp at h
  have h8 : row ≠ 28#5 := by rintro rfl; simp at h
  simp [captureRow, h0, h6, h7, h8, Config.lastTextRow]

/-- Every packet instruction is the packet step of its row's transition. -/
theorem exec_packet {i : Instr} {p : Packet} {r : Row} (h : i.packetRow = some (p, r)) (s : State) :
    exec i s = packetStep p (if r = 0#5 then headerStep p else rowStep p r) s := by
  cases i <;> simp only [Instr.packetRow, Option.some.injEq, Prod.mk.injEq, reduceCtorEq] at h <;>
    obtain ⟨rfl, rfl⟩ := h <;> rfl

/-- The transition of a packet of the rows 1 to 31. -/
theorem exec_row {i : Instr} {p : Packet} {r : Row} (h : i.packetRow = some (p, r)) (h0 : r ≠ 0#5)
    (s : State) : exec i s = packetStep p (rowStep p r) s := by
  rw [exec_packet h, if_neg h0]

/-- The class that a row number selects holds the packet and that row number. -/
theorem instrOfRow_packetRow (r : Row) (p : Packet) : (instrOfRow r p).packetRow = some (p, r) := by
  have h : ∀ k : Fin 32, (instrOfRow (BitVec.ofNat 5 k.val) p).packetRow =
      some (p, BitVec.ofNat 5 k.val) := by
    intro k
    fin_cases k <;> rfl
  have h2 := h ⟨r.toNat, r.isLt⟩
  simpa using h2

end Sys2Proof.Machine
end

