-- ==== Sys2Proof/Laws/Encoding.lean ====
section
/-! SUPPORT. The Field Decoder and the encodings: the small lemmas the encoding laws cite. -/

namespace Sys2Proof

open Machine

theorem decodeField_E0 : ∀ n : Nibble, decodeField (E0 n) = n := by decide

theorem decodeField_EH : ∀ n : Nibble, decodeField (EH n) = n := by decide

/-- The row as its upper four bits and its low bit. -/
theorem decodeAddress_row (b0 b1 : Byte) :
    (decodeAddress b0 b1).2 =
      ((decodeField b1).setWidth 5 <<< 1) + (if b0.getLsbD 7 then 1#5 else 0#5) := by
  have h : ∀ b0 : Byte, (decodeField b0 &&& 8#4 = 0#4) ↔ b0.getLsbD 7 = false := by decide
  by_cases hb : b0.getLsbD 7 = true
  · have h2 : ¬ (decodeField b0 &&& 8#4 = 0#4) := by rw [h, hb]; simp
    simp [decodeAddress, h2, hb]
  · have h1 : b0.getLsbD 7 = false := by simpa using hb
    simp only [decodeAddress, (h b0).2 h1, h1, if_true]
    simp

theorem matchOfRow_injective : ∀ r q : Row, matchOfRow r = matchOfRow q → r = q := by decide

/-- The masked address word is `match` of the row (R87). -/
theorem match_of_address (b0 b1 : Byte) :
    ((b1.setWidth 16 <<< 8) ||| b0.setWidth 16) &&& 0xAA80#16 =
      matchOfRow (decodeAddress b0 b1).2 := by
  have hi : ∀ (b : Byte) (l : Bool),
      (b.setWidth 16 <<< 8 &&& 0xAA80#16) ||| (if l then 0x0080#16 else 0#16) =
        matchOfRow (((decodeField b).setWidth 5 <<< 1) + (if l then 1#5 else 0#5)) := by decide
  have lo : ∀ b : Byte,
      b.setWidth 16 &&& 0xAA80#16 = if b.getLsbD 7 then 0x0080#16 else 0#16 := by decide
  rw [decodeAddress_row, ← hi, ← lo]
  ext k
  simp [Bool.and_or_distrib_right]

/-- A packet's row and its masked word determine each other (R87). -/
theorem mrag16_masked (p : Packet) : mrag16 p &&& 0xAA80#16 = matchOfRow (rowOf p) :=
  match_of_address (byteAt p 0) (byteAt p 1)

theorem mrag16_low (p : Packet) : (mrag16 p).setWidth 8 = byteAt p 0 := by
  ext k hk
  simp [mrag16]

theorem mrag16_high (p : Packet) : ((mrag16 p) >>> 8).setWidth 8 = byteAt p 1 := by
  ext k hk
  have h1 : 8 + k < 16 := by omega
  have h2 : k < 16 := by omega
  simp [mrag16, h1, h2, BitVec.getLsbD_eq_getElem hk]

/-- Putting a packet's own address word back changes nothing. -/
theorem withMrag_self (p : Packet) : withMrag p (mrag16 p) = p := by
  obtain ⟨bs, h⟩ := p
  simp only [withMrag, mrag16_low, mrag16_high, Packet.mk.injEq]
  match bs, h with
  | b0 :: b1 :: rest, _ => rfl

theorem word_split (w : BitVec 16) : (w &&& 0x557F#16) ||| (w &&& 0xAA80#16) = w := by
  rw [← BitVec.and_or_distrib_left]
  exact BitVec.and_allOnes

/-- A packet of row `r` is its own encoding. -/
theorem encodeRow_self {p : Packet} {r : Row} (h : rowOf p = r) : encodeRow p r = .packet p.bytes := by
  rw [encodeRow, ← h, ← mrag16_masked, word_split, withMrag_self]

/-- A packet instruction of its own row is read back. -/
theorem roundtrip_row (keys : FavKeys) (p : Packet) (r : Row) (h : rowOf p = r) :
    decode keys (encodeRow p r) = .ok (instrOfRow r p) := by
  rw [encodeRow_self h, decode_full keys p.bytes p.len_eq, decodePacket, h]

/-- What the domain of `FAV_KEYS` (R9) says of the eight characters. -/
theorem FavKeys.wf_iff (k : FavKeys) :
    k.wf = true ↔ k.all.Nodup ∧ ∀ c ∈ k.all, isFixedCommand c = false := by
  simp [FavKeys.wf, List.all_eq_true]

/-- A character that is no fixed command is looked up in the favourite keys. -/
theorem decodeChar_notFixed {c : Byte} (h : isFixedCommand c = false) (keys : FavKeys) :
    decodeChar keys c = favouriteInstr c (keys.find c) := by
  have hn : ∀ c : Byte, isFixedCommand c = false → c ≠ 0x68#8 ∧ c ≠ 0x72#8 ∧ c ≠ 0x71#8 ∧
      c ≠ 0x1B#8 ∧ digitInstr c = none := by decide
  obtain ⟨h1, h2, h3, h4, h5⟩ := hn c h
  simp only [decodeChar, h1, h2, h3, h4, h5, if_false]

/-- The key table finds each of its own keys. -/
theorem FavKeys.find_own {k : FavKeys} (h : k.wf = true) (b : Bool) :
    k.find (k.slot0.pick b) = some (0, b) ∧ k.find (k.slot1.pick b) = some (1, b) ∧
    k.find (k.slot2.pick b) = some (2, b) ∧ k.find (k.slot3.pick b) = some (3, b) := by
  have hd := ((FavKeys.wf_iff k).1 h).1
  simp only [FavKeys.all, List.nodup_cons, List.mem_cons, not_or, List.not_mem_nil] at hd
  obtain ⟨⟨a1, a2, a3, a4, a5, a6, a7, -⟩, ⟨b1, b2, b3, b4, b5, b6, -⟩, ⟨c1, c2, c3, c4, c5, -⟩,
    ⟨d1, d2, d3, d4, -⟩, ⟨e1, e2, e3, -⟩, ⟨f1, f2, -⟩, ⟨g1, -⟩, -⟩ := hd
  cases b
  · simp only [FavKeys.find, KeyPair.pick, Bool.false_eq_true, if_false, if_true, Ne.symm a2, Ne.symm a4,
      Ne.symm a6, Ne.symm b1, Ne.symm b3, Ne.symm b5, Ne.symm c2, Ne.symm c4, Ne.symm d1, Ne.symm d3,
      Ne.symm e2, Ne.symm f1, and_self]
  · simp only [FavKeys.find, KeyPair.pick, if_false, if_true, Ne.symm a1, Ne.symm a3,
      Ne.symm a5, Ne.symm a7, Ne.symm b2, Ne.symm b4, Ne.symm b6, Ne.symm c1, Ne.symm c3, Ne.symm c5,
      Ne.symm d2, Ne.symm d4, Ne.symm e1, Ne.symm e3, Ne.symm f2, Ne.symm g1, and_self]

theorem FavKeys.find_none {k : FavKeys} {c : Byte} (h : c ∉ k.all) : k.find c = none := by
  simp only [FavKeys.all, List.mem_cons, not_or] at h
  simp [FavKeys.find, h]

theorem FavKeys.pick_notFixed {k : FavKeys} (h : k.wf = true) (b : Bool) :
    isFixedCommand (k.slot0.pick b) = false ∧ isFixedCommand (k.slot1.pick b) = false ∧
    isFixedCommand (k.slot2.pick b) = false ∧ isFixedCommand (k.slot3.pick b) = false := by
  have hd := ((FavKeys.wf_iff k).1 h).2
  cases b <;> simp [KeyPair.pick] <;> refine ⟨?_, ?_, ?_, ?_⟩ <;> exact hd _ (by simp [FavKeys.all])

theorem decodeChar_fav0 {k : FavKeys} (h : k.wf = true) (b : Bool) :
    decodeChar k (k.slot0.pick b) = .fav0 b := by
  rw [decodeChar_notFixed (FavKeys.pick_notFixed h b).1, (FavKeys.find_own h b).1, favouriteInstr]

theorem decodeChar_fav1 {k : FavKeys} (h : k.wf = true) (b : Bool) :
    decodeChar k (k.slot1.pick b) = .fav1 b := by
  rw [decodeChar_notFixed (FavKeys.pick_notFixed h b).2.1, (FavKeys.find_own h b).2.1, favouriteInstr]

theorem decodeChar_fav2 {k : FavKeys} (h : k.wf = true) (b : Bool) :
    decodeChar k (k.slot2.pick b) = .fav2 b := by
  rw [decodeChar_notFixed (FavKeys.pick_notFixed h b).2.2.1, (FavKeys.find_own h b).2.2.1, favouriteInstr]

theorem decodeChar_fav3 {k : FavKeys} (h : k.wf = true) (b : Bool) :
    decodeChar k (k.slot3.pick b) = .fav3 b := by
  rw [decodeChar_notFixed (FavKeys.pick_notFixed h b).2.2.2, (FavKeys.find_own h b).2.2.2, favouriteInstr]

theorem decodeChar_nocmd {k : FavKeys} {c : Byte} (h : isFixedCommand c = false ∧ c ∉ k.all) :
    decodeChar k c = .nocmd (some c) := by
  rw [decodeChar_notFixed h.1, FavKeys.find_none h.2, favouriteInstr]

end Sys2Proof
end

