-- ==== Sys2Proof/Laws/PerInstr.lean ====
section
/-! SUPPORT. Laws made per instruction: one lemma per constructor of `Instr`. -/

namespace Sys2Proof.Laws

/-- What the table says of one instruction as syntax: encoded, a packet instruction carries its row's bits
of R87 in its first two bytes, and a command is its character. Here: decoding gives it back. -/
def Roundtrip.Statement (i : Instr) : Prop :=
  ∀ keys : FavKeys, keys.wf = true → i.wf keys = true → decode keys (encode keys i) = .ok i

theorem Roundtrip.hdr (p : Packet) : Statement (.hdr p) :=
  fun keys _ h => roundtrip_row keys p 0 (by simpa [Instr.wf] using h)

theorem Roundtrip.row1 (p : Packet) : Statement (.row1 p) :=
  fun keys _ h => roundtrip_row keys p 1 (by simpa [Instr.wf] using h)

theorem Roundtrip.row2 (p : Packet) : Statement (.row2 p) :=
  fun keys _ h => roundtrip_row keys p 2 (by simpa [Instr.wf] using h)

theorem Roundtrip.row3 (p : Packet) : Statement (.row3 p) :=
  fun keys _ h => roundtrip_row keys p 3 (by simpa [Instr.wf] using h)

theorem Roundtrip.row4 (p : Packet) : Statement (.row4 p) :=
  fun keys _ h => roundtrip_row keys p 4 (by simpa [Instr.wf] using h)

theorem Roundtrip.row5 (p : Packet) : Statement (.row5 p) :=
  fun keys _ h => roundtrip_row keys p 5 (by simpa [Instr.wf] using h)

theorem Roundtrip.row6 (p : Packet) : Statement (.row6 p) :=
  fun keys _ h => roundtrip_row keys p 6 (by simpa [Instr.wf] using h)

theorem Roundtrip.row7 (p : Packet) : Statement (.row7 p) :=
  fun keys _ h => roundtrip_row keys p 7 (by simpa [Instr.wf] using h)

theorem Roundtrip.row8 (p : Packet) : Statement (.row8 p) :=
  fun keys _ h => roundtrip_row keys p 8 (by simpa [Instr.wf] using h)

theorem Roundtrip.row9 (p : Packet) : Statement (.row9 p) :=
  fun keys _ h => roundtrip_row keys p 9 (by simpa [Instr.wf] using h)

theorem Roundtrip.row10 (p : Packet) : Statement (.row10 p) :=
  fun keys _ h => roundtrip_row keys p 10 (by simpa [Instr.wf] using h)

theorem Roundtrip.row11 (p : Packet) : Statement (.row11 p) :=
  fun keys _ h => roundtrip_row keys p 11 (by simpa [Instr.wf] using h)

theorem Roundtrip.row12 (p : Packet) : Statement (.row12 p) :=
  fun keys _ h => roundtrip_row keys p 12 (by simpa [Instr.wf] using h)

theorem Roundtrip.row13 (p : Packet) : Statement (.row13 p) :=
  fun keys _ h => roundtrip_row keys p 13 (by simpa [Instr.wf] using h)

theorem Roundtrip.row14 (p : Packet) : Statement (.row14 p) :=
  fun keys _ h => roundtrip_row keys p 14 (by simpa [Instr.wf] using h)

theorem Roundtrip.row15 (p : Packet) : Statement (.row15 p) :=
  fun keys _ h => roundtrip_row keys p 15 (by simpa [Instr.wf] using h)

theorem Roundtrip.row16 (p : Packet) : Statement (.row16 p) :=
  fun keys _ h => roundtrip_row keys p 16 (by simpa [Instr.wf] using h)

theorem Roundtrip.row17 (p : Packet) : Statement (.row17 p) :=
  fun keys _ h => roundtrip_row keys p 17 (by simpa [Instr.wf] using h)

theorem Roundtrip.row18 (p : Packet) : Statement (.row18 p) :=
  fun keys _ h => roundtrip_row keys p 18 (by simpa [Instr.wf] using h)

theorem Roundtrip.row19 (p : Packet) : Statement (.row19 p) :=
  fun keys _ h => roundtrip_row keys p 19 (by simpa [Instr.wf] using h)

theorem Roundtrip.row20 (p : Packet) : Statement (.row20 p) :=
  fun keys _ h => roundtrip_row keys p 20 (by simpa [Instr.wf] using h)

theorem Roundtrip.row21 (p : Packet) : Statement (.row21 p) :=
  fun keys _ h => roundtrip_row keys p 21 (by simpa [Instr.wf] using h)

theorem Roundtrip.row22 (p : Packet) : Statement (.row22 p) :=
  fun keys _ h => roundtrip_row keys p 22 (by simpa [Instr.wf] using h)

theorem Roundtrip.row23 (p : Packet) : Statement (.row23 p) :=
  fun keys _ h => roundtrip_row keys p 23 (by simpa [Instr.wf] using h)

theorem Roundtrip.row24 (p : Packet) : Statement (.row24 p) :=
  fun keys _ h => roundtrip_row keys p 24 (by simpa [Instr.wf] using h)

theorem Roundtrip.ign25 (p : Packet) : Statement (.ign25 p) :=
  fun keys _ h => roundtrip_row keys p 25 (by simpa [Instr.wf] using h)

theorem Roundtrip.meta26 (p : Packet) : Statement (.meta26 p) :=
  fun keys _ h => roundtrip_row keys p 26 (by simpa [Instr.wf] using h)

theorem Roundtrip.link27 (p : Packet) : Statement (.link27 p) :=
  fun keys _ h => roundtrip_row keys p 27 (by simpa [Instr.wf] using h)

theorem Roundtrip.meta28 (p : Packet) : Statement (.meta28 p) :=
  fun keys _ h => roundtrip_row keys p 28 (by simpa [Instr.wf] using h)

theorem Roundtrip.ign29 (p : Packet) : Statement (.ign29 p) :=
  fun keys _ h => roundtrip_row keys p 29 (by simpa [Instr.wf] using h)

theorem Roundtrip.ign30 (p : Packet) : Statement (.ign30 p) :=
  fun keys _ h => roundtrip_row keys p 30 (by simpa [Instr.wf] using h)

theorem Roundtrip.ign31 (p : Packet) : Statement (.ign31 p) :=
  fun keys _ h => roundtrip_row keys p 31 (by simpa [Instr.wf] using h)

theorem Roundtrip.hold : Statement .hold := fun _ _ _ => rfl

theorem Roundtrip.reveal : Statement .reveal := fun _ _ _ => rfl

theorem Roundtrip.quit : Statement .quit := fun _ _ _ => rfl

theorem Roundtrip.quitEsc : Statement .quitEsc := fun _ _ _ => rfl

theorem Roundtrip.digit0 : Statement .digit0 := fun _ _ _ => rfl

theorem Roundtrip.digit1 : Statement .digit1 := fun _ _ _ => rfl

theorem Roundtrip.digit2 : Statement .digit2 := fun _ _ _ => rfl

theorem Roundtrip.digit3 : Statement .digit3 := fun _ _ _ => rfl

theorem Roundtrip.digit4 : Statement .digit4 := fun _ _ _ => rfl

theorem Roundtrip.digit5 : Statement .digit5 := fun _ _ _ => rfl

theorem Roundtrip.digit6 : Statement .digit6 := fun _ _ _ => rfl

theorem Roundtrip.digit7 : Statement .digit7 := fun _ _ _ => rfl

theorem Roundtrip.digit8 : Statement .digit8 := fun _ _ _ => rfl

theorem Roundtrip.digit9 : Statement .digit9 := fun _ _ _ => rfl

theorem Roundtrip.fav0 (b : Bool) : Statement (.fav0 b) :=
  fun keys h _ => by simp only [encode, decode, decodeCommand, decodeChar_fav0 h]

theorem Roundtrip.fav1 (b : Bool) : Statement (.fav1 b) :=
  fun keys h _ => by simp only [encode, decode, decodeCommand, decodeChar_fav1 h]

theorem Roundtrip.fav2 (b : Bool) : Statement (.fav2 b) :=
  fun keys h _ => by simp only [encode, decode, decodeCommand, decodeChar_fav2 h]

theorem Roundtrip.fav3 (b : Bool) : Statement (.fav3 b) :=
  fun keys h _ => by simp only [encode, decode, decodeCommand, decodeChar_fav3 h]

theorem Roundtrip.nocmd (c : Option Byte) : Statement (.nocmd c) := fun keys _ h => by
  cases c with
  | none => rfl
  | some c => simp only [encode, decode, decodeCommand, decodeChar_nocmd (by simpa [Instr.wf] using h)]

end Sys2Proof.Laws
end

