-- ==== Sys2Proof/Tests/Slice0.lean ====
section
/-! SUPPORT. Small tests. Words and vectors are written out from `spec/30_encoding.md` (R81, R82, R87, R88)
and `spec/95_test_vectors.md`; the id of a vector stands in the comment. -/

namespace Sys2Proof.Tests

open Sys2Proof.Machine

/-! ### Helpers -/

/-- A packet of format R: two address bytes and the filler 20. -/
def rowPacket (b0 b1 : Byte) : Packet := ⟨b0 :: b1 :: List.replicate 40 0x20#8, rfl⟩

/-- A packet of format H: nine coded bytes and the filler 20. -/
def headerPacket (b0 b1 b2 b3 b4 b5 b6 b7 b8 : Byte) : Packet :=
  ⟨b0 :: b1 :: b2 :: b3 :: b4 :: b5 :: b6 :: b7 :: b8 :: List.replicate 33 0x20#8, rfl⟩

/-- A packet as a full delivery. -/
def full (p : Packet) : Delivery := ⟨p.bytes, Nat.le_of_eq p.len_eq⟩

/-- A delivery of `n` bytes 02, at most 42 of them. -/
def short (n : Nat) : Delivery := ⟨(List.replicate n 0x02#8).take 42, by simp⟩

/-- "capturing" of part 2.8: `capturing = 1`, `wasCapturing = 1`, `seeking = 0`. -/
def capt : State := { State.reset with capturing := true, wasCapturing := true, seeking := false }

/-- The environment's key table of the vectors K9 and K10: F, G recall slot 2. -/
def favs : Favourites := ⟨⟨1, 0x11⟩, ⟨8, 0xFF⟩, ⟨3, 0x50⟩, ⟨4, 0x9A⟩⟩

/-- The next state's changed part, compared with what is expected. -/
def goes (r : Result) (t : State) : Bool := decide (nextState? r = some t)

/-! ### WellFormed: each check refuses an ill-formed term -/

theorem test_wf_keys_twice_the_same :
    FavKeys.wf ⟨⟨0x42, 0x43⟩, ⟨0x44, 0x45⟩, ⟨0x46, 0x47⟩, ⟨0x49, 0x42⟩⟩ = false := by decide
theorem test_wf_keys_hold :
    FavKeys.wf ⟨⟨0x68, 0x43⟩, ⟨0x44, 0x45⟩, ⟨0x46, 0x47⟩, ⟨0x49, 0x4A⟩⟩ = false := by decide
theorem test_wf_keys_reveal :
    FavKeys.wf ⟨⟨0x42, 0x72⟩, ⟨0x44, 0x45⟩, ⟨0x46, 0x47⟩, ⟨0x49, 0x4A⟩⟩ = false := by decide
theorem test_wf_keys_quit :
    FavKeys.wf ⟨⟨0x42, 0x43⟩, ⟨0x71, 0x45⟩, ⟨0x46, 0x47⟩, ⟨0x49, 0x4A⟩⟩ = false := by decide
theorem test_wf_keys_escape :
    FavKeys.wf ⟨⟨0x42, 0x43⟩, ⟨0x44, 0x1B⟩, ⟨0x46, 0x47⟩, ⟨0x49, 0x4A⟩⟩ = false := by decide
theorem test_wf_keys_digit_zero :
    FavKeys.wf ⟨⟨0x42, 0x43⟩, ⟨0x44, 0x45⟩, ⟨0x30, 0x47⟩, ⟨0x49, 0x4A⟩⟩ = false := by decide
theorem test_wf_keys_digit_nine :
    FavKeys.wf ⟨⟨0x42, 0x43⟩, ⟨0x44, 0x45⟩, ⟨0x46, 0x47⟩, ⟨0x49, 0x39⟩⟩ = false := by decide
theorem test_wf_keys_neighbours_of_the_digits :
    FavKeys.wf ⟨⟨0x2F, 0x3A⟩, ⟨0x44, 0x45⟩, ⟨0x46, 0x47⟩, ⟨0x48, 0x51⟩⟩ = true := by decide
theorem test_wf_entry_first : EntryBuf.wf ⟨0x2F, 0x30, 0x30⟩ = false := by decide
theorem test_wf_entry_second : EntryBuf.wf ⟨0x30, 0x3A, 0x30⟩ = false := by decide
theorem test_wf_entry_third : EntryBuf.wf ⟨0x30, 0x39, 0x41⟩ = false := by decide
theorem test_wf_params_entry :
    Params.wf { Params.chosen with entryBufReset := ⟨0x20, 0x30, 0x30⟩ } = false := by decide
theorem test_wf_params_keys :
    Params.wf { Params.chosen with
      favKeys := ⟨⟨0x42, 0x42⟩, ⟨0x44, 0x45⟩, ⟨0x46, 0x47⟩, ⟨0x49, 0x4A⟩⟩ } = false := by decide

/-- A packet instruction with a packet of the next row is ill formed, for each of the 32 classes. -/
theorem test_wf_packet_of_another_row :
    Instr.wf Params.chosen.favKeys (.hdr (rowPacket 0x82 0x00)) = false ∧
    Instr.wf Params.chosen.favKeys (.row1 (rowPacket 0x02 0x02)) = false ∧
    Instr.wf Params.chosen.favKeys (.row2 (rowPacket 0x82 0x02)) = false ∧
    Instr.wf Params.chosen.favKeys (.row3 (rowPacket 0x02 0x08)) = false ∧
    Instr.wf Params.chosen.favKeys (.row4 (rowPacket 0x82 0x08)) = false ∧
    Instr.wf Params.chosen.favKeys (.row5 (rowPacket 0x02 0x0A)) = false ∧
    Instr.wf Params.chosen.favKeys (.row6 (rowPacket 0x82 0x0A)) = false ∧
    Instr.wf Params.chosen.favKeys (.row7 (rowPacket 0x02 0x20)) = false ∧
    Instr.wf Params.chosen.favKeys (.row8 (rowPacket 0x82 0x20)) = false ∧
    Instr.wf Params.chosen.favKeys (.row9 (rowPacket 0x02 0x22)) = false ∧
    Instr.wf Params.chosen.favKeys (.row10 (rowPacket 0x82 0x22)) = false ∧
    Instr.wf Params.chosen.favKeys (.row11 (rowPacket 0x02 0x28)) = false ∧
    Instr.wf Params.chosen.favKeys (.row12 (rowPacket 0x82 0x28)) = false ∧
    Instr.wf Params.chosen.favKeys (.row13 (rowPacket 0x02 0x2A)) = false ∧
    Instr.wf Params.chosen.favKeys (.row14 (rowPacket 0x82 0x2A)) = false ∧
    Instr.wf Params.chosen.favKeys (.row15 (rowPacket 0x02 0x80)) = false ∧
    Instr.wf Params.chosen.favKeys (.row16 (rowPacket 0x82 0x80)) = false ∧
    Instr.wf Params.chosen.favKeys (.row17 (rowPacket 0x02 0x82)) = false ∧
    Instr.wf Params.chosen.favKeys (.row18 (rowPacket 0x82 0x82)) = false ∧
    Instr.wf Params.chosen.favKeys (.row19 (rowPacket 0x02 0x88)) = false ∧
    Instr.wf Params.chosen.favKeys (.row20 (rowPacket 0x82 0x88)) = false ∧
    Instr.wf Params.chosen.favKeys (.row21 (rowPacket 0x02 0x8A)) = false ∧
    Instr.wf Params.chosen.favKeys (.row22 (rowPacket 0x82 0x8A)) = false ∧
    Instr.wf Params.chosen.favKeys (.row23 (rowPacket 0x02 0xA0)) = false ∧
    Instr.wf Params.chosen.favKeys (.row24 (rowPacket 0x82 0xA0)) = false ∧
    Instr.wf Params.chosen.favKeys (.ign25 (rowPacket 0x02 0xA2)) = false ∧
    Instr.wf Params.chosen.favKeys (.meta26 (rowPacket 0x82 0xA2)) = false ∧
    Instr.wf Params.chosen.favKeys (.link27 (rowPacket 0x02 0xA8)) = false ∧
    Instr.wf Params.chosen.favKeys (.meta28 (rowPacket 0x82 0xA8)) = false ∧
    Instr.wf Params.chosen.favKeys (.ign29 (rowPacket 0x02 0xAA)) = false ∧
    Instr.wf Params.chosen.favKeys (.ign30 (rowPacket 0x82 0xAA)) = false ∧
    Instr.wf Params.chosen.favKeys (.ign31 (rowPacket 0x02 0x00)) = false := by decide

theorem test_wf_nocmd_fixed : Instr.wf Params.chosen.favKeys (.nocmd (some 0x68)) = false := by decide
theorem test_wf_nocmd_digit : Instr.wf Params.chosen.favKeys (.nocmd (some 0x35)) = false := by decide
theorem test_wf_nocmd_favourite : Instr.wf Params.chosen.favKeys (.nocmd (some 0x4A)) = false := by decide

/-! ### Decoding: the words of R82, R87 and R88, written out

`P[0]` stands in the low byte of a word. The first word of a class is the magazine-1 pair of part 3 (`E0`),
the second the magazine-3 pair of part 3 with the check bits of `EH`. -/

theorem test_decode_hdr :
    decodeTableWord 16 0x0002 = some (.hdr (packetOfWord 16 0x0002)) ∧
    decodeTableWord 16 0x155E = some (.hdr (packetOfWord 16 0x155E)) := by decide
theorem test_decode_row1 :
    decodeTableWord 16 0x0082 = some (.row1 (packetOfWord 16 0x0082)) ∧
    decodeTableWord 16 0x159B = some (.row1 (packetOfWord 16 0x159B)) := by decide
theorem test_decode_row2 :
    decodeTableWord 16 0x0202 = some (.row2 (packetOfWord 16 0x0202)) ∧
    decodeTableWord 16 0x025E = some (.row2 (packetOfWord 16 0x025E)) := by decide
theorem test_decode_row3 :
    decodeTableWord 16 0x0282 = some (.row3 (packetOfWord 16 0x0282)) ∧
    decodeTableWord 16 0x029B = some (.row3 (packetOfWord 16 0x029B)) := by decide
theorem test_decode_row4 :
    decodeTableWord 16 0x0802 = some (.row4 (packetOfWord 16 0x0802)) ∧
    decodeTableWord 16 0x495E = some (.row4 (packetOfWord 16 0x495E)) := by decide
theorem test_decode_row5 :
    decodeTableWord 16 0x0882 = some (.row5 (packetOfWord 16 0x0882)) ∧
    decodeTableWord 16 0x499B = some (.row5 (packetOfWord 16 0x499B)) := by decide
theorem test_decode_row6 :
    decodeTableWord 16 0x0A02 = some (.row6 (packetOfWord 16 0x0A02)) ∧
    decodeTableWord 16 0x5E5E = some (.row6 (packetOfWord 16 0x5E5E)) := by decide
theorem test_decode_row7 :
    decodeTableWord 16 0x0A82 = some (.row7 (packetOfWord 16 0x0A82)) ∧
    decodeTableWord 16 0x5E9B = some (.row7 (packetOfWord 16 0x5E9B)) := by decide
theorem test_decode_row8 :
    decodeTableWord 16 0x2002 = some (.row8 (packetOfWord 16 0x2002)) ∧
    decodeTableWord 16 0x645E = some (.row8 (packetOfWord 16 0x645E)) := by decide
theorem test_decode_row9 :
    decodeTableWord 16 0x2082 = some (.row9 (packetOfWord 16 0x2082)) ∧
    decodeTableWord 16 0x649B = some (.row9 (packetOfWord 16 0x649B)) := by decide
theorem test_decode_row10 :
    decodeTableWord 16 0x2202 = some (.row10 (packetOfWord 16 0x2202)) ∧
    decodeTableWord 16 0x735E = some (.row10 (packetOfWord 16 0x735E)) := by decide
theorem test_decode_row11 :
    decodeTableWord 16 0x2282 = some (.row11 (packetOfWord 16 0x2282)) ∧
    decodeTableWord 16 0x739B = some (.row11 (packetOfWord 16 0x739B)) := by decide
theorem test_decode_row12 :
    decodeTableWord 16 0x2802 = some (.row12 (packetOfWord 16 0x2802)) ∧
    decodeTableWord 16 0x385E = some (.row12 (packetOfWord 16 0x385E)) := by decide
theorem test_decode_row13 :
    decodeTableWord 16 0x2882 = some (.row13 (packetOfWord 16 0x2882)) ∧
    decodeTableWord 16 0x389B = some (.row13 (packetOfWord 16 0x389B)) := by decide
theorem test_decode_row14 :
    decodeTableWord 16 0x2A02 = some (.row14 (packetOfWord 16 0x2A02)) ∧
    decodeTableWord 16 0x2F5E = some (.row14 (packetOfWord 16 0x2F5E)) := by decide
theorem test_decode_row15 :
    decodeTableWord 16 0x2A82 = some (.row15 (packetOfWord 16 0x2A82)) ∧
    decodeTableWord 16 0x2F9B = some (.row15 (packetOfWord 16 0x2F9B)) := by decide
theorem test_decode_row16 :
    decodeTableWord 16 0x8002 = some (.row16 (packetOfWord 16 0x8002)) ∧
    decodeTableWord 16 0xD05E = some (.row16 (packetOfWord 16 0xD05E)) := by decide
theorem test_decode_row17 :
    decodeTableWord 16 0x8082 = some (.row17 (packetOfWord 16 0x8082)) ∧
    decodeTableWord 16 0xD09B = some (.row17 (packetOfWord 16 0xD09B)) := by decide
theorem test_decode_row18 :
    decodeTableWord 16 0x8202 = some (.row18 (packetOfWord 16 0x8202)) ∧
    decodeTableWord 16 0xC75E = some (.row18 (packetOfWord 16 0xC75E)) := by decide
theorem test_decode_row19 :
    decodeTableWord 16 0x8282 = some (.row19 (packetOfWord 16 0x8282)) ∧
    decodeTableWord 16 0xC79B = some (.row19 (packetOfWord 16 0xC79B)) := by decide
theorem test_decode_row20 :
    decodeTableWord 16 0x8802 = some (.row20 (packetOfWord 16 0x8802)) ∧
    decodeTableWord 16 0x8C5E = some (.row20 (packetOfWord 16 0x8C5E)) := by decide
theorem test_decode_row21 :
    decodeTableWord 16 0x8882 = some (.row21 (packetOfWord 16 0x8882)) ∧
    decodeTableWord 16 0x8C9B = some (.row21 (packetOfWord 16 0x8C9B)) := by decide
theorem test_decode_row22 :
    decodeTableWord 16 0x8A02 = some (.row22 (packetOfWord 16 0x8A02)) ∧
    decodeTableWord 16 0x9B5E = some (.row22 (packetOfWord 16 0x9B5E)) := by decide
theorem test_decode_row23 :
    decodeTableWord 16 0x8A82 = some (.row23 (packetOfWord 16 0x8A82)) ∧
    decodeTableWord 16 0x9B9B = some (.row23 (packetOfWord 16 0x9B9B)) := by decide
theorem test_decode_row24 :
    decodeTableWord 16 0xA002 = some (.row24 (packetOfWord 16 0xA002)) ∧
    decodeTableWord 16 0xA15E = some (.row24 (packetOfWord 16 0xA15E)) := by decide
theorem test_decode_ign25 :
    decodeTableWord 16 0xA082 = some (.ign25 (packetOfWord 16 0xA082)) ∧
    decodeTableWord 16 0xA19B = some (.ign25 (packetOfWord 16 0xA19B)) := by decide
theorem test_decode_meta26 :
    decodeTableWord 16 0xA202 = some (.meta26 (packetOfWord 16 0xA202)) ∧
    decodeTableWord 16 0xB65E = some (.meta26 (packetOfWord 16 0xB65E)) := by decide
theorem test_decode_link27 :
    decodeTableWord 16 0xA282 = some (.link27 (packetOfWord 16 0xA282)) ∧
    decodeTableWord 16 0xB69B = some (.link27 (packetOfWord 16 0xB69B)) := by decide
theorem test_decode_meta28 :
    decodeTableWord 16 0xA802 = some (.meta28 (packetOfWord 16 0xA802)) ∧
    decodeTableWord 16 0xFD5E = some (.meta28 (packetOfWord 16 0xFD5E)) := by decide
theorem test_decode_ign29 :
    decodeTableWord 16 0xA882 = some (.ign29 (packetOfWord 16 0xA882)) ∧
    decodeTableWord 16 0xFD9B = some (.ign29 (packetOfWord 16 0xFD9B)) := by decide
theorem test_decode_ign30 :
    decodeTableWord 16 0xAA02 = some (.ign30 (packetOfWord 16 0xAA02)) ∧
    decodeTableWord 16 0xEA5E = some (.ign30 (packetOfWord 16 0xEA5E)) := by decide
theorem test_decode_ign31 :
    decodeTableWord 16 0xAA82 = some (.ign31 (packetOfWord 16 0xAA82)) ∧
    decodeTableWord 16 0xEA9B = some (.ign31 (packetOfWord 16 0xEA9B)) := by decide
theorem test_decode_hold : decodeTableWord 8 0x68 = some .hold := by decide
theorem test_decode_reveal : decodeTableWord 8 0x72 = some .reveal := by decide
theorem test_decode_quit : decodeTableWord 8 0x71 = some .quit := by decide
theorem test_decode_quitEsc : decodeTableWord 8 0x1B = some .quitEsc := by decide
theorem test_decode_digit0 : decodeTableWord 8 0x30 = some .digit0 := by decide
theorem test_decode_digit1 : decodeTableWord 8 0x31 = some .digit1 := by decide
theorem test_decode_digit2 : decodeTableWord 8 0x32 = some .digit2 := by decide
theorem test_decode_digit3 : decodeTableWord 8 0x33 = some .digit3 := by decide
theorem test_decode_digit4 : decodeTableWord 8 0x34 = some .digit4 := by decide
theorem test_decode_digit5 : decodeTableWord 8 0x35 = some .digit5 := by decide
theorem test_decode_digit6 : decodeTableWord 8 0x36 = some .digit6 := by decide
theorem test_decode_digit7 : decodeTableWord 8 0x37 = some .digit7 := by decide
theorem test_decode_digit8 : decodeTableWord 8 0x38 = some .digit8 := by decide
theorem test_decode_digit9 : decodeTableWord 8 0x39 = some .digit9 := by decide
theorem test_decode_fav0 :
    decodeTableWord 8 0x42 = some (.fav0 false) ∧
    decodeTableWord 8 0x43 = some (.fav0 true) := by decide
theorem test_decode_fav1 :
    decodeTableWord 8 0x44 = some (.fav1 false) ∧
    decodeTableWord 8 0x45 = some (.fav1 true) := by decide
theorem test_decode_fav2 :
    decodeTableWord 8 0x46 = some (.fav2 false) ∧
    decodeTableWord 8 0x47 = some (.fav2 true) := by decide
theorem test_decode_fav3 :
    decodeTableWord 8 0x49 = some (.fav3 false) ∧
    decodeTableWord 8 0x4A = some (.fav3 true) := by decide
/-- K15 to K20: no character, x, H, Q, the neighbours of the digits. -/
theorem test_decode_nocmd :
    decodeTableWord 0 0 = some (.nocmd none) ∧
    decodeTableWord 8 0x78 = some (.nocmd (some 0x78)) ∧
    decodeTableWord 8 0x48 = some (.nocmd (some 0x48)) ∧
    decodeTableWord 8 0x51 = some (.nocmd (some 0x51)) ∧
    decodeTableWord 8 0x3A = some (.nocmd (some 0x3A)) ∧
    decodeTableWord 8 0x2F = some (.nocmd (some 0x2F)) := by decide
theorem test_reject_short :
    decode Params.chosen.favKeys (.packet (List.replicate 41 0x02)) = .error (.shortPacket 41) := by decide
theorem test_reject_overlong :
    decode Params.chosen.favKeys (.packet (List.replicate 43 0x02)) = .error (.overlongPacket 43) := by
  decide

/-! ### The Field Decoder, parts 2.1 to 2.5 -/

theorem test_decodeField :
    [0x00, 0xFF, 0x55, 0xAA, 0x02, 0x08, 0x20, 0x80, 0x01, 0x04, 0x10, 0x40, 0x8A, 0xDF, 0x7F, 0x49].map
      decodeField = [0x0, 0xF, 0x0, 0xF, 0x1, 0x2, 0x4, 0x8, 0x0, 0x0, 0x0, 0x0, 0xB, 0xB, 0x7, 0x2] := by
  decide
theorem test_decodeAddress :
    decodeAddress 0x00 0x00 = (8, 0) ∧ decodeAddress 0x55 0x55 = (8, 0) ∧
    decodeAddress 0x82 0x00 = (1, 1) ∧ decodeAddress 0x2A 0x00 = (7, 0) ∧
    decodeAddress 0xFF 0xFF = (7, 31) ∧ decodeAddress 0x80 0xAA = (8, 31) ∧
    decodeAddress 0x8A 0xA2 = (3, 27) ∧ decodeAddress 0xCF 0xF7 = (3, 27) ∧
    decodeAddress 0x20 0x20 = (4, 8) := by decide
/-- R107's worked example and the rows 01, 10, AD of part 2.3. -/
theorem test_decodePageNumber :
    decodePageNumber (headerPacket 2 0 0x0A 0x08 0 0 0 0 0) = 0x23 ∧
    decodePageNumber (headerPacket 2 0 0x02 0x00 0 0 0 0 0) = 0x01 ∧
    decodePageNumber (headerPacket 2 0 0x00 0x02 0 0 0 0 0) = 0x10 ∧
    decodePageNumber (headerPacket 2 0 0xA2 0x88 0 0 0 0 0) = 0xAD := by decide
theorem test_decodeSubcode :
    decodeSubcode (headerPacket 2 0 0 0 0x22 0xAA 0x82 0xA8 0) = 0x14F5 ∧
    decodeSubcode (headerPacket 2 0 0 0 0xFF 0xFF 0xFF 0xFF 0) = 0x1FFF ∧
    decodeSubcode (headerPacket 2 0 0 0 0xA1 0x5E 0x73 0x5E 0) = 0x1ABC ∧
    decodeSubcode (headerPacket 2 0 0 0 0x00 0x80 0x00 0xA0 0) = 0x0000 ∧
    decodeSubcode (headerPacket 2 0 0 0 0x00 0x00 0x80 0x00 0) = 0x0400 := by decide
theorem test_decodeControlFlag :
    decodeControlFlag (headerPacket 2 0 0 0 0 0 0 0 0x02) = true ∧
    decodeControlFlag (headerPacket 2 0 0 0 0 0 0 0 0xA8) = false ∧
    decodeControlFlag (headerPacket 2 0 0 0 0 0 0 0 0x57) = true := by decide
theorem test_codes :
    ((List.range 16).map (fun n => E0 (BitVec.ofNat 4 n))) =
      [0x00, 0x02, 0x08, 0x0A, 0x20, 0x22, 0x28, 0x2A, 0x80, 0x82, 0x88, 0x8A, 0xA0, 0xA2, 0xA8, 0xAA] ∧
    ((List.range 16).map (fun n => EH (BitVec.ofNat 4 n))) =
      [0x15, 0x02, 0x49, 0x5E, 0x64, 0x73, 0x38, 0x2F, 0xD0, 0xC7, 0x8C, 0x9B, 0xA1, 0xB6, 0xFD, 0xEA] := by
  decide
/-- The packets P2.7 (`HDR 8 AF 1ABC 0`, `E0`), P3.10 (`HDR 2 34 0002 1`, `EH`), P3.7 (`ROW 2 7`, `EH`). -/
theorem test_reference_encoder :
    refHeader E0 8 0xAF 0x1ABC false = headerPacket 0x00 0x00 0xAA 0x88 0xA0 0x0A 0x22 0x0A 0x00 ∧
    refHeader EH 2 0x34 0x0002 true = headerPacket 0x49 0x15 0x64 0x5E 0x49 0x15 0x15 0x15 0x02 ∧
    refRow EH 2 7#5 = rowPacket 0x8C 0x5E := by decide

/-! ### Headers, part 2.7 -/

/-- H4's shape with H10's set: the rows 2..23 blanked in rising order, `ColorReset`, `PaintHeader`. -/
theorem test_header_ends_cycle :
    let p := headerPacket 0x02 0x00 0x02 0x00 0x00 0x00 0x00 0x00 0x00
    let s := { capt with seeking := true, suppressHeader := true, rowsSeen := 0x9F000002#32 }
    goes (exec (.hdr p) s) { s with
      capturing := false, wasCapturing := false, rowsSeen := 0, suppressHeader := false
      actions := (List.range 22).map (fun k => .blankRow (BitVec.ofNat 5 (k + 2))) ++
        [.colorReset, .paintHeader p 1 0x00 true false] } = true := by decide
/-- H2: a new subpage. -/
theorem test_header_new_subpage :
    let p := headerPacket 0x02 0x00 0x00 0x00 0x08 0x00 0x00 0x00 0x00
    let s := { capt with rowsSeen := 0xE#32, lastSubcode := 0x0001, rowCounter := 3 }
    goes (exec (.hdr p) s) { s with
      rowsSeen := 0, lastSubcode := 0x0002, rowCounter := 0, lastHeaderPacket := p
      actions := [.rendererClear, .paintHeader p 1 0x00 false false] } = true := by decide

/-! ### Rows, part 2.8 -/

/-- W2 for row `r` with the answer true, from its magazine-1 pair. -/
def paintsAndMarks (i : Packet → Instr) (b0 b1 : Byte) (r : Nat) : Bool :=
  let p := rowPacket b0 b1
  let s := { capt with answers := [true] }
  goes (exec (i p) s) { s with
    answers := [], rowsSeen := BitVec.ofNat 32 (2 ^ r), elideRow := BitVec.ofNat 5 (r + 1)
    rowCounter := 1, actions := [.paintRow p (BitVec.ofNat 5 r)] }

theorem test_row1 : paintsAndMarks .row1 0x82 0x00 1 = true := by decide
theorem test_row2 : paintsAndMarks .row2 0x02 0x02 2 = true := by decide
theorem test_row3 : paintsAndMarks .row3 0x82 0x02 3 = true := by decide
theorem test_row4 : paintsAndMarks .row4 0x02 0x08 4 = true := by decide
theorem test_row5 : paintsAndMarks .row5 0x82 0x08 5 = true := by decide
theorem test_row6 : paintsAndMarks .row6 0x02 0x0A 6 = true := by decide
theorem test_row7 : paintsAndMarks .row7 0x82 0x0A 7 = true := by decide
theorem test_row8 : paintsAndMarks .row8 0x02 0x20 8 = true := by decide
theorem test_row9 : paintsAndMarks .row9 0x82 0x20 9 = true := by decide
theorem test_row10 : paintsAndMarks .row10 0x02 0x22 10 = true := by decide
theorem test_row11 : paintsAndMarks .row11 0x82 0x22 11 = true := by decide
theorem test_row12 : paintsAndMarks .row12 0x02 0x28 12 = true := by decide
theorem test_row13 : paintsAndMarks .row13 0x82 0x28 13 = true := by decide
theorem test_row14 : paintsAndMarks .row14 0x02 0x2A 14 = true := by decide
theorem test_row15 : paintsAndMarks .row15 0x82 0x2A 15 = true := by decide
theorem test_row16 : paintsAndMarks .row16 0x02 0x80 16 = true := by decide
theorem test_row17 : paintsAndMarks .row17 0x82 0x80 17 = true := by decide
theorem test_row18 : paintsAndMarks .row18 0x02 0x82 18 = true := by decide
theorem test_row19 : paintsAndMarks .row19 0x82 0x82 19 = true := by decide
theorem test_row20 : paintsAndMarks .row20 0x02 0x88 20 = true := by decide
theorem test_row21 : paintsAndMarks .row21 0x82 0x88 21 = true := by decide
theorem test_row22 : paintsAndMarks .row22 0x02 0x8A 22 = true := by decide
theorem test_row23 : paintsAndMarks .row23 0x82 0x8A 23 = true := by decide
theorem test_row24 : paintsAndMarks .row24 0x02 0xA0 24 = true := by decide
/-- W3: the marked row is pumped. -/
theorem test_row6_marked :
    let s := { capt with elideRow := 6, rowsSeen := 0x20#32, rowCounter := 1 }
    goes (exec (.row6 (rowPacket 0x02 0x0A)) s)
      { s with elideRow := 0, actions := [.idlePump] } = true := by decide
/-- W20: an answer false leaves a pending marker. -/
theorem test_row5_false_answer :
    let s := { capt with elideRow := 6, answers := [false] }
    goes (exec (.row5 (rowPacket 0x82 0x08)) s) { s with
      answers := [], rowsSeen := 0x20#32, rowCounter := 1
      actions := [.paintRow (rowPacket 0x82 0x08) 5] } = true := by decide
/-- W8. -/
theorem test_ign25_marked :
    let s := { capt with elideRow := 25, rowsSeen := 0x1000000#32 }
    goes (exec (.ign25 (rowPacket 0x82 0xA0)) s)
      { s with elideRow := 0, actions := [.idlePump] } = true := by decide
/-- W9, W13, W14. -/
theorem test_ignored_rows :
    goes (exec (.ign25 (rowPacket 0x82 0xA0)) capt) { capt with rowsSeen := 0x02000000#32 } = true ∧
    goes (exec (.ign29 (rowPacket 0x82 0xA8)) capt) { capt with rowsSeen := 0x20000000#32 } = true ∧
    goes (exec (.ign30 (rowPacket 0x02 0xAA)) capt) { capt with rowsSeen := 0x40000000#32 } = true ∧
    goes (exec (.ign31 (rowPacket 0x82 0xAA)) capt) { capt with rowsSeen := 0x80000000#32 } = true := by
  decide
/-- W10, W11, W12. -/
theorem test_forwarded_rows :
    goes (exec (.meta26 (rowPacket 0x02 0xA2)) capt) { capt with
      rowsSeen := 0x04000000#32, actions := [.metaDecode (rowPacket 0x02 0xA2) 26] } = true ∧
    goes (exec (.link27 (rowPacket 0x82 0xA2)) capt) { capt with
      rowsSeen := 0x08000000#32, actions := [.linkDecode (rowPacket 0x82 0xA2)] } = true ∧
    goes (exec (.meta28 (rowPacket 0x02 0xA8)) capt) { capt with
      rowsSeen := 0x10000000#32, actions := [.metaDecode (rowPacket 0x02 0xA8) 28] } = true := by decide
/-- W15 and F2: nothing happens outside a capture, nor to a marked row of another magazine. -/
theorem test_rows_without_effect :
    goes (exec (.row1 (rowPacket 0x82 0x00)) State.reset) State.reset = true ∧
    goes (exec (.row5 (rowPacket 0x8A 0x08)) { capt with elideRow := 5 })
      { capt with elideRow := 5 } = true := by decide

/-! ### Commands, parts 2.9 and 2.10 -/

/-- K3 and K5 for every digit: behind "123" the front is 2, behind "000" it is 0. -/
def digitTunes (i : Instr) (c : Byte) (page : Page) : Bool :=
  let s := { State.reset with seeking := false, entryBuf := ⟨0x31, 0x32, 0x33⟩ }
  let z := { State.reset with seeking := false }
  goes (exec i s) { s with
    currentMag := 2, currentPage := page, seeking := true, entryBuf := ⟨0x32, 0x33, c⟩
    actions := [.echoTypingHeader ⟨0x32, 0x33, c⟩] } &&
  goes (exec i z) { z with entryBuf := ⟨0x30, 0x30, c⟩ }

theorem test_digit0 : digitTunes .digit0 0x30 0x30 = true := by decide
theorem test_digit1 : digitTunes .digit1 0x31 0x31 = true := by decide
theorem test_digit2 : digitTunes .digit2 0x32 0x32 = true := by decide
theorem test_digit3 : digitTunes .digit3 0x33 0x33 = true := by decide
theorem test_digit4 : digitTunes .digit4 0x34 0x34 = true := by decide
theorem test_digit5 : digitTunes .digit5 0x35 0x35 = true := by decide
theorem test_digit6 : digitTunes .digit6 0x36 0x36 = true := by decide
theorem test_digit7 : digitTunes .digit7 0x37 0x37 = true := by decide
theorem test_digit8 : digitTunes .digit8 0x38 0x38 = true := by decide
theorem test_digit9 : digitTunes .digit9 0x39 0x39 = true := by decide
/-- K7's last press: the largest page that can be typed. -/
theorem test_digit9_largest :
    let s := { State.reset with seeking := false, entryBuf := ⟨0x30, 0x38, 0x39⟩ }
    goes (exec .digit9 s) { s with
      currentMag := 8, currentPage := 0x99, seeking := true, entryBuf := ⟨0x38, 0x39, 0x39⟩
      actions := [.echoTypingHeader ⟨0x38, 0x39, 0x39⟩] } = true := by decide
/-- K10's shape for each slot and each of its two keys. -/
def recalls (i : Bool → Instr) (mag : Magazine) (page : Page) : Bool :=
  let s := { capt with
    rowsSeen := 6#32, elideRow := 3, entryBuf := ⟨0x34, 0x35, 0x36⟩, favoriteSlots := favs }
  let t := { s with
    currentMag := mag, currentPage := page, seeking := true, actions := [.rendererClear] }
  goes (exec (i false) s) t && goes (exec (i true) s) t
theorem test_fav0 : recalls .fav0 1 0x11 = true := by decide
theorem test_fav1 : recalls .fav1 8 0xFF = true := by decide
theorem test_fav2 : recalls .fav2 3 0x50 = true := by decide
theorem test_fav3 : recalls .fav3 4 0x9A = true := by decide
/-- U11: a favourite outside 1..8 is refused. -/
theorem test_fav0_out_of_range :
    exec (.fav0 true) { capt with favoriteSlots := ⟨⟨9, 0⟩, ⟨1, 0⟩, ⟨1, 0⟩, ⟨1, 0⟩⟩ } =
      .refused .magazineOutOfRange := rfl
/-- K11, K12. -/
theorem test_hold :
    goes (exec .hold State.reset) { State.reset with holdMode := true } = true ∧
    goes (exec .hold { State.reset with holdMode := true }) State.reset = true := by decide
/-- K13, K14. -/
theorem test_reveal :
    goes (exec .reveal State.reset)
      { State.reset with revealMode := true, actions := [.toggleReveal] } = true ∧
    goes (exec .reveal { State.reset with revealMode := true })
      { State.reset with actions := [.toggleReveal] } = true := by decide
/-- X3, X4. -/
theorem test_quit :
    goes (exec .quit State.reset)
      { State.reset with halted := true, haltCause := .quit, actions := [.cleanup] } = true := by decide
theorem test_quitEsc :
    goes (exec .quitEsc State.reset)
      { State.reset with halted := true, haltCause := .quit, actions := [.cleanup] } = true := by decide
/-- K15, K16. -/
theorem test_nocmd :
    goes (exec (.nocmd none) State.reset) State.reset = true ∧
    goes (exec (.nocmd (some 0x78)) State.reset) State.reset = true := by decide

/-! ### Steps, parts 2.6, 2.10 and 2.11 -/

/-- H12 as a step of the loop from reset: the first matching header. -/
theorem test_step_header :
    let p := headerPacket 0x02 0x00 0x00 0x00 0x00 0x00 0x00 0x00 0x02
    let s := { State.reset with pkt := [full p] }
    goes (step s) { State.reset with
      phase := .packet 1, capturing := true, wasCapturing := true, seeking := false
      suppressHeader := true, lastHeaderPacket := p
      actions := [.paintHeader p 1 0x00 false true] } = true := by decide
/-- F6, X1: a short delivery halts with cause 1, whatever it holds, and `LogFatal` comes first. -/
theorem test_step_short :
    (nextState? (step { capt with pkt := [short 10], elideRow := 2, rowsSeen := 2 })).map
      (fun t => (t.halted, t.haltCause, t.elideRow, t.rowsSeen, t.actions.head?)) =
      some (true, .shortPacket, 2, 2, some .logFatal) := by decide
/-- P4 steps 17 and 18: the key F, then the message h with `Ack`. -/
theorem test_step_key :
    let s := { State.reset with phase := .key, keys := [some 0x46], favoriteSlots := favs }
    goes (step s) { s with
      phase := .message, keys := [], currentMag := 3, currentPage := 0x50
      actions := [.rendererClear] } = true := by decide
theorem test_step_message :
    let s := { State.reset with phase := .message, messages := [some [0x68]] }
    goes (step s) { s with
      phase := .packet 0, messages := [], holdMode := true, actions := [.ack] } = true := by decide
/-- X7: the interrupt. -/
theorem test_step_interrupt :
    let s := { capt with holdMode := true, turns := [.interrupt] }
    goes (step s) { s with
      turns := [], halted := true, haltCause := .int, actions := [.cleanup] } = true := by decide
/-- "no step, no action, no change" of X1 to X7. -/
theorem test_step_halted :
    step { capt with halted := true, haltCause := .quit, turns := [.interrupt] } = .fault .halted := rfl
/-- Z1, Z3 and Z5. -/
theorem test_step_reset :
    goes (step { capt with
        halted := true, haltCause := .int, holdMode := true, rowCounter := 7, turns := [.reset 0 0x00] })
      State.reset = true ∧
    goes (step { capt with turns := [.reset 8 0xFF] })
      { State.reset with currentMag := 8, currentPage := 0xFF } = true ∧
    step { capt with turns := [.reset 9 0x00] } = .refused .resetParameterOutOfRange ∧
    step { capt with turns := [.reset 1 0x100] } = .refused .resetParameterOutOfRange :=
  ⟨by decide, by decide, rfl, rfl⟩
theorem test_withFetchWord :
    goes (step (State.reset.withFetchWord 8 0x68))
      { State.reset with holdMode := true } = true ∧
    goes (step (State.reset.withFetchWord 16 0x0882)) State.reset = true := by decide


/-! ### Witnesses: states and operands that meet the hypotheses of the statements -/

/-- A row packet of magazine 1 with the two address bytes of part 3. -/
def rowOne : Packet := rowPacket 0x82 0x00

/-- `HDR 1 00 0000 1` (H12). -/
def tunedHeader : Packet := headerPacket 0x02 0x00 0x00 0x00 0x00 0x00 0x00 0x00 0x02

/-- `HDR 1 01 0000 0` (H4). -/
def otherHeader : Packet := headerPacket 0x02 0x00 0x02 0x00 0x00 0x00 0x00 0x00 0x00

/-- A key table whose characters lie beside the fixed ones. -/
def edgeKeys : FavKeys := ⟨⟨0x2F, 0x3A⟩, ⟨0x67, 0x69⟩, ⟨0x70, 0x73⟩, ⟨0x00, 0xFF⟩⟩

theorem witness_DecodeFieldReadsOddBits :
    (0 < 4 ∧ (decodeField 0x02).getLsbD 0 = true) ∧ (3 < 4 ∧ (decodeField 0x80).getLsbD 3 = true) := by
  decide

/-- S1: 8A with bit 0, and with bit 6, flipped. -/
theorem witness_DecodeFieldIgnoresCheckBits :
    0 < 4 ∧ 3 < 4 ∧ decodeField 0x8A = 0xB ∧ decodeField 0x8B = 0xB ∧ decodeField 0xCA = 0xB := by decide

theorem witness_AddressIsBijectionOnDataBits :
    legalMagazine 1 = true ∧ legalMagazine 8 = true ∧ decodeAddress 0x02 0x00 = (1, 0) ∧
      decodeAddress 0x80 0xAA = (8, 31) := by decide

theorem witness_ReferenceEncoderIsUndone :
    (∀ n, decodeField (E0 n) = n) ∧ (∀ n, decodeField (EH n) = n) ∧
      legalMagazine 1 = true ∧ legalMagazine 8 = true := by decide

theorem witness_DecodeUndoesEncode :
    edgeKeys.wf = true ∧ Instr.wf edgeKeys (.hdr tunedHeader) = true ∧
      Instr.wf edgeKeys (.row1 rowOne) = true ∧
      Instr.wf edgeKeys (.ign31 (rowPacket 0xFF 0xFF)) = true ∧ Instr.wf edgeKeys (.fav3 true) = true ∧
      Instr.wf edgeKeys (.nocmd none) = true ∧ Instr.wf edgeKeys (.nocmd (some 0x78)) = true := by decide

theorem witness_EncodeUndoesDecode : edgeKeys.wf = true := by decide

theorem witness_EveryFullPacketDecodes :
    tunedHeader.bytes.length = 42 ∧ ([] : List Byte).length < 42 ∧
      (List.replicate 41 0x02#8).length < 42 ∧ 42 < (List.replicate 43 0x02#8).length := by decide

theorem witness_CommandTableIsRead :
    edgeKeys.wf = true ∧ (Instr.digit0, 0x30#8) ∈ digitCommands ∧ (Instr.digit9, 0x39#8) ∈ digitCommands ∧
      isFixedCommand 0x78 = false ∧ 0x78 ∉ edgeKeys.all := by decide

theorem witness_StepRunsTheDecodedPacket :
    let s := { State.reset with pkt := [full tunedHeader] }
    s.halted = false ∧ nextTurn s = .packet ∧
      decode s.params.favKeys (.packet (nextDelivery s).bytes) = .ok (.hdr tunedHeader) := by decide

theorem witness_StepRunsTheDecodedCommand :
    let k := { State.reset with phase := .key, keys := [some 0x68] }
    let e := { State.reset with phase := .message, messages := [some []] }
    let m := { State.reset with phase := .message, messages := [some [0x68]] }
    (k.halted = false ∧ nextTurn k = .key) ∧
    (e.halted = false ∧ nextTurn e = .message ∧ e.messages.head?.join = some [] ∧
      ([] : List Byte).length ≤ 1) ∧
    (m.halted = false ∧ nextTurn m = .message ∧ m.messages.head?.join = some [0x68] ∧
      [0x68#8].length ≤ 1) := by decide

theorem witness_ShortDeliveryIsFatal :
    let s := fun d => { State.reset with pkt := [d] }
    (s (short 0)).halted = false ∧ nextTurn (s (short 0)) = .packet ∧
      (s (short 0)).pkt = short 0 :: [] ∧ (short 0).bytes.length = 0 ∧ (short 41).bytes.length = 41 ∧
      (full tunedHeader).bytes.length = 42 := by decide

theorem witness_ExhaustedPortEndsTheRun :
    State.reset.halted = false ∧ nextTurn State.reset = .packet ∧ State.reset.pkt = [] := by decide

theorem witness_HaltedTakesNoStep :
    let s := { State.reset with halted := true, haltCause := .quit }
    s.halted = true ∧ ∀ m p, nextTurn s ≠ .reset m p := by
  refine ⟨by decide, fun m p h => ?_⟩
  exact absurd (show Turn.packet = .reset m p from h) (by simp)

theorem witness_ResetWritesEveryRegister :
    let s := fun m p => { capt with halted := true, haltCause := .int, turns := [.reset m p] }
    (nextTurn (s 0 0) = .reset 0 0 ∧ 0 ≤ 8 ∧ 0 ≤ 0xFF) ∧
    (nextTurn (s 8 0xFF) = .reset 8 0xFF ∧ 8 ≤ 8 ∧ 0xFF ≤ 0xFF) ∧
    (nextTurn (s 9 0) = .reset 9 0 ∧ 8 < 9) ∧ (nextTurn (s 0 0x100) = .reset 0 0x100 ∧ 0xFF < 0x100) := by
  decide

theorem witness_LoopServesSixteenPacketsKeyMessage :
    let s := { State.reset with pkt := [full rowOne] }
    s.turns = [] ∧ step s = .next { State.reset with phase := .packet 1 } := ⟨rfl, rfl⟩

theorem witness_LoopStepIsARelaxedStep : State.reset.turns = [] := by decide

theorem witness_EmptyPollsDoNothing :
    let k := { State.reset with phase := .key }
    let n := { State.reset with phase := .key, keys := [none] }
    let m := { State.reset with phase := .message }
    let o := { State.reset with phase := .message, messages := [none] }
    (k.halted = false ∧ nextTurn k = .key ∧ k.keys.head?.join = none) ∧
    (n.halted = false ∧ nextTurn n = .key ∧ n.keys.head?.join = none) ∧
    (m.halted = false ∧ nextTurn m = .message ∧ m.messages.head?.join = none) ∧
    (o.halted = false ∧ nextTurn o = .message ∧ o.messages.head?.join = none) := by decide

theorem witness_InputsTheSpecRefuses :
    let s := { State.reset with phase := .message, messages := [some [0x68, 0x68]] }
    let f := { capt with favoriteSlots := ⟨⟨0, 0x00⟩, ⟨9, 0x00⟩, ⟨15, 0x00⟩, ⟨9, 0xFF⟩⟩ }
    (f.halted = false ∧ f.favoriteSlots.slot0.mag.toNat = 0 ∧ 8 < f.favoriteSlots.slot1.mag.toNat ∧
      8 < f.favoriteSlots.slot2.mag.toNat ∧ 8 < f.favoriteSlots.slot3.mag.toNat) ∧
    (s.halted = false ∧ nextTurn s = .message ∧ s.messages.head?.join = some [0x68, 0x68] ∧
      1 < [0x68#8, 0x68#8].length) := by decide

theorem witness_QuitIsTheSameFromKeyAndMessage :
    State.reset.halted = false ∧ (0x71#8 = 0x71#8 ∨ 0x71#8 = 0x1B#8) ∧
      (0x1B#8 = 0x71#8 ∨ 0x1B#8 = 0x1B#8) := by decide

theorem witness_InterruptHalts :
    let s := { State.reset with turns := [.interrupt] }
    s.halted = false ∧ nextTurn s = .interrupt := by decide

theorem witness_PrimitivesOfTheControlPort :
    State.reset.halted = false ∧ (1 ≤ (1 : Magazine).toNat ∧ (1 : Magazine).toNat ≤ 8) ∧
      (1 ≤ (8 : Magazine).toNat ∧ (8 : Magazine).toNat ≤ 8) ∧ (0 : Magazine).toNat = 0 ∧
      8 < (9 : Magazine).toNat ∧ 8 < (15 : Magazine).toNat := by decide

theorem witness_OtherMagazineIsDropped :
    (Instr.row5 (rowPacket 0x8A 0x08)).packetRow = some (rowPacket 0x8A 0x08, 5) ∧
      capt.halted = false ∧ magazineOf (rowPacket 0x8A 0x08) ≠ capt.currentMag := by decide

theorem accepts_of (s : State) (p : Packet) (h : s.halted = false) (m : magazineOf p = s.currentMag) :
    Accepts s p := ⟨h, m⟩

theorem witness_HeldHeaderOnlyClearsTheMarker :
    let s := { capt with holdMode := true, elideRow := 7 }
    Accepts s tunedHeader ∧ s.holdMode = true := ⟨accepts_of _ _ rfl (by decide), rfl⟩

theorem witness_MatchingHeaderCaptures :
    Accepts State.reset tunedHeader ∧ State.reset.holdMode = false ∧
      decodePageNumber tunedHeader = State.reset.currentPage :=
  ⟨accepts_of _ _ rfl (by decide), rfl, by decide⟩

theorem witness_EveryHeaderClearsTheMarker :
    Accepts { capt with elideRow := 25 } otherHeader ∧
      Accepts { capt with elideRow := 25, holdMode := true } tunedHeader :=
  ⟨accepts_of _ _ rfl (by decide), accepts_of _ _ rfl (by decide)⟩

theorem witness_LiveHeaderDecidesCapturing :
    Accepts State.reset tunedHeader ∧ State.reset.holdMode = false ∧ Accepts capt otherHeader ∧
      capt.holdMode = false :=
  ⟨accepts_of _ _ rfl (by decide), rfl, accepts_of _ _ rfl (by decide), rfl⟩

theorem witness_OtherHeaderEndsTheCycle :
    Accepts capt otherHeader ∧ capt.holdMode = false ∧
      decodePageNumber otherHeader ≠ capt.currentPage ∧ capt.wasCapturing = true :=
  ⟨accepts_of _ _ rfl (by decide), rfl, by decide, rfl⟩

theorem witness_CycleEndBlanksExactlyTheUnseenRows :
    Accepts capt otherHeader ∧ capt.holdMode = false ∧
      decodePageNumber otherHeader ≠ capt.currentPage ∧ capt.wasCapturing = true ∧
      capt.rowsSeen.getLsbD 1 = false ∧ capt.rowsSeen.getLsbD 24 = false :=
  ⟨accepts_of _ _ rfl (by decide), rfl, by decide, rfl, by decide, by decide⟩

theorem witness_LiveHeaderPaintsOnceAtTheEnd :
    Accepts State.reset otherHeader ∧ State.reset.holdMode = false :=
  ⟨accepts_of _ _ rfl (by decide), rfl⟩

theorem witness_MarkedRowIsSkipped :
    (∃ s : State, (Instr.row1 rowOne).packetRow = some (rowOne, 1) ∧ (1 : Row) ≠ 0#5 ∧
      Accepts s rowOne ∧ s.elideRow = 1) ∧
    (∃ s : State, (Instr.row6 (rowPacket 0x02 0x0A)).packetRow = some (rowPacket 0x02 0x0A, 6) ∧
      (6 : Row) ≠ 0#5 ∧ Accepts s (rowPacket 0x02 0x0A) ∧ s.elideRow = 6) ∧
    (∃ s : State, (Instr.ign31 (rowPacket 0x82 0xAA)).packetRow = some (rowPacket 0x82 0xAA, 31) ∧
      (31 : Row) ≠ 0#5 ∧ Accepts s (rowPacket 0x82 0xAA) ∧ s.elideRow = 31) :=
  ⟨⟨{ capt with elideRow := 1 }, rfl, by decide, accepts_of _ _ rfl (by decide), rfl⟩,
   ⟨{ capt with elideRow := 6 }, rfl, by decide, accepts_of _ _ rfl (by decide), rfl⟩,
   ⟨{ capt with elideRow := 31 }, rfl, by decide, accepts_of _ _ rfl (by decide), rfl⟩⟩

theorem witness_CaptureGateMarksTheRow :
    ((Instr.row1 rowOne).packetRow = some (rowOne, 1) ∧ (1 : Row) ≠ 0#5 ∧ Accepts State.reset rowOne ∧
      State.reset.elideRow ≠ 1 ∧ State.reset.capturing = false) ∧
    ((Instr.ign31 (rowPacket 0x82 0xAA)).packetRow = some (rowPacket 0x82 0xAA, 31) ∧ (31 : Row) ≠ 0#5 ∧
      Accepts capt (rowPacket 0x82 0xAA) ∧ capt.elideRow ≠ 31 ∧ capt.capturing = true) :=
  ⟨⟨rfl, by decide, accepts_of _ _ rfl (by decide), by decide, rfl⟩,
   ⟨rfl, by decide, accepts_of _ _ rfl (by decide), by decide, rfl⟩⟩

theorem witness_CapturedTextRowIsPainted :
    (∃ s : State, (Instr.row1 rowOne).packetRow = some (rowOne, 1) ∧ 1 ≤ (1 : Row).toNat ∧
      (1 : Row).toNat ≤ 24 ∧ Accepts s rowOne ∧ s.elideRow ≠ 1 ∧ s.capturing = true ∧
      s.answers = true :: []) ∧
    (∃ s : State, (Instr.row24 (rowPacket 0x02 0xA0)).packetRow = some (rowPacket 0x02 0xA0, 24) ∧
      1 ≤ (24 : Row).toNat ∧ (24 : Row).toNat ≤ 24 ∧ Accepts s (rowPacket 0x02 0xA0) ∧
      s.elideRow ≠ 24 ∧ s.capturing = true ∧ s.answers = []) :=
  ⟨⟨{ capt with answers := [true] }, rfl, by decide, by decide, accepts_of _ _ rfl (by decide),
      by decide, rfl, rfl⟩,
   ⟨capt, rfl, by decide, by decide, accepts_of _ _ rfl (by decide), by decide, rfl, rfl⟩⟩

theorem witness_EnhancementRowIsForwarded :
    let s := { capt with elideRow := 25 }
    ((Instr.meta26 (rowPacket 0x02 0xA2)).packetRow = some (rowPacket 0x02 0xA2, 26#5) ∧
      Accepts s (rowPacket 0x02 0xA2)) ∧
    ((Instr.meta28 (rowPacket 0x02 0xA8)).packetRow = some (rowPacket 0x02 0xA8, 28#5) ∧
      Accepts s (rowPacket 0x02 0xA8)) ∧ s.elideRow.toNat ≤ 25 ∧ s.capturing = true :=
  ⟨⟨rfl, accepts_of _ _ rfl (by decide)⟩, ⟨rfl, accepts_of _ _ rfl (by decide)⟩, by decide, rfl⟩

theorem witness_LinkRowIsForwarded :
    let s := { capt with elideRow := 25 }
    Accepts s (rowPacket 0x82 0xA2) ∧ s.elideRow.toNat ≤ 25 ∧ s.capturing = true :=
  ⟨accepts_of _ _ rfl (by decide), by decide, rfl⟩

theorem witness_IgnoredRowIsOnlyMarked :
    let s := { capt with elideRow := 25 }
    ((Instr.ign25 (rowPacket 0x82 0xA0)).packetRow = some (rowPacket 0x82 0xA0, 25#5) ∧
      Accepts s (rowPacket 0x82 0xA0) ∧ s.elideRow = 25#5) ∧
    ((Instr.ign29 (rowPacket 0x82 0xA8)).packetRow = some (rowPacket 0x82 0xA8, 29) ∧
      29 ≤ (29 : Row).toNat ∧ Accepts s (rowPacket 0x82 0xA8)) ∧
    ((Instr.ign31 (rowPacket 0x82 0xAA)).packetRow = some (rowPacket 0x82 0xAA, 31) ∧
      29 ≤ (31 : Row).toNat ∧ Accepts s (rowPacket 0x82 0xAA)) ∧ s.elideRow.toNat ≤ 25 :=
  ⟨⟨rfl, accepts_of _ _ rfl (by decide), rfl⟩,
   ⟨rfl, by decide, accepts_of _ _ rfl (by decide)⟩,
   ⟨rfl, by decide, accepts_of _ _ rfl (by decide)⟩, by decide⟩

theorem witness_SkipTriggersOncePerSignal :
    (∃ s : State, (Instr.row1 rowOne).packetRow = some (rowOne, 1) ∧
      (Instr.row2 (rowPacket 0x02 0x02)).packetRow = some (rowPacket 0x02 0x02, 1 + 1#5) ∧
      1 ≤ (1 : Row).toNat ∧ (1 : Row).toNat < 24 ∧ Accepts s rowOne ∧
      magazineOf (rowPacket 0x02 0x02) = s.currentMag ∧ s.elideRow ≠ 1 ∧ s.capturing = true ∧
      s.answers = true :: false :: []) ∧
    (∃ s : State, (Instr.row24 (rowPacket 0x02 0xA0)).packetRow = some (rowPacket 0x02 0xA0, 24) ∧
      (Instr.ign25 (rowPacket 0x82 0xA0)).packetRow = some (rowPacket 0x82 0xA0, 24 + 1#5) ∧
      (24 : Row).toNat = 24 ∧ Accepts s (rowPacket 0x02 0xA0) ∧
      magazineOf (rowPacket 0x82 0xA0) = s.currentMag ∧ s.elideRow ≠ 24 ∧ s.capturing = true ∧
      s.answers = true :: false :: []) :=
  ⟨⟨{ capt with answers := [true, false] }, rfl, rfl, by decide, by decide,
      accepts_of _ _ rfl (by decide), by decide, by decide, rfl, rfl⟩,
   ⟨{ capt with answers := [true, false] }, rfl, rfl, rfl, accepts_of _ _ rfl (by decide), by decide,
      by decide, rfl, rfl⟩⟩

theorem witness_PacketsLeaveTheHostSideAlone :
    (Instr.hdr otherHeader).packetRow = some (otherHeader, 0) ∧
      (Instr.row1 rowOne).packetRow = some (rowOne, 1) ∧ capt.halted = false := by decide

theorem witness_RowsWriteOnlyTheirThreeRegisters :
    let s := { capt with answers := [true] }
    (Instr.row1 rowOne).packetRow = some (rowOne, 1) ∧ (1 : Row) ≠ 0#5 ∧
      exec (.row1 rowOne) s = .next { s with
        answers := [], rowsSeen := 2, elideRow := 2, rowCounter := 1
        actions := [.paintRow rowOne 1] } := ⟨rfl, by decide, rfl⟩

theorem witness_HoldToggles : State.reset.halted = false := by decide
theorem witness_RevealToggles : State.reset.halted = false := by decide
theorem witness_QuitHalts : State.reset.halted = false := by decide
theorem witness_NoCommandDoesNothing : State.reset.halted = false := by decide

theorem witness_FavouriteRecallTunes :
    let s := { capt with favoriteSlots := ⟨⟨1, 0x00⟩, ⟨8, 0xFF⟩, ⟨4, 0x9A⟩, ⟨8, 0x00⟩⟩ }
    s.halted = false ∧ (1 ≤ s.favoriteSlots.slot0.mag.toNat ∧ s.favoriteSlots.slot0.mag.toNat ≤ 8) ∧
      (1 ≤ s.favoriteSlots.slot1.mag.toNat ∧ s.favoriteSlots.slot1.mag.toNat ≤ 8) ∧
      (Instr.fav0 true, s.favoriteSlots.slot0) ∈ [(Instr.fav0 true, s.favoriteSlots.slot0)] := by decide

theorem witness_DigitShiftsAndTunes :
    let s := fun c => { State.reset with entryBuf := ⟨0x30, c, 0x32⟩ }
    (Instr.digit0, 0x30#8) ∈ digitCommands ∧ (Instr.digit9, 0x39#8) ∈ digitCommands ∧
      ((s 0x31).halted = false ∧ (s 0x31).entryBuf.wf = true ∧ 0x31 ≤ (s 0x31).entryBuf.c1.toNat) ∧
      ((s 0x38).entryBuf.wf = true ∧ (s 0x38).entryBuf.c1.toNat ≤ 0x38) ∧
      ((s 0x30).entryBuf.wf = true ∧ (s 0x30).entryBuf.c1 = 0x30) ∧
      ((s 0x39).entryBuf.wf = true ∧ (s 0x39).entryBuf.c1 = 0x39) := by decide

theorem witness_ThreeDigitsTune :
    State.reset.halted = false ∧ State.reset.entryBuf.wf = true ∧
      (Instr.digit1, 0x31#8) ∈ digitCommands ∧ (Instr.digit8, 0x38#8) ∈ digitCommands ∧
      (Instr.digit0, 0x30#8) ∈ digitCommands ∧ 0x31 ≤ (0x31#8).toNat ∧ (0x38#8).toNat ≤ 0x38 := by decide

theorem witness_CommandsNeverTouchTracking :
    Instr.packetRow .hold = none ∧
      exec .hold capt = .next { capt with holdMode := true } := ⟨rfl, rfl⟩

theorem witness_ResetMeetsTheInvariant :
    capt.params.wf = true ∧ resetBlock 8 0xFF capt =
      .next { State.reset with currentMag := 8, currentPage := 0xFF } := ⟨by decide, rfl⟩

theorem inv_capt : Inv { capt with elideRow := 25, rowsSeen := 0xFFFFFFFE#32, pkt := [full rowOne] } where
  magazine := by decide
  marker := by decide
  noHeaderRow := by decide
  entryDigits := by decide
  twoStates := by decide
  markerCapturing := by decide
  idleSeen := by decide
  haltCause := by decide
  bufferReleased := by decide
  params := by decide

theorem witness_StepKeepsTheInvariant :
    ∃ s t : State, Inv s ∧ step s = .next t ∧ s.capturing = true :=
  ⟨_, _, inv_capt, rfl, rfl⟩

theorem witness_UnreadRegistersAreUnobservable :
    SameButUnread capt
      { capt with rowCounter := 9, lastHeaderPacket := tunedHeader, revealMode := true } := rfl

theorem witness_UnreadBitsAreUnobservable :
    SameReadBits tunedHeader (headerPacket 0x57 0x55 0x55 0x55 0x55 0xD5 0x55 0xF5 0xFF) ∧
      SameButPackets { capt with actions := [.paintHoldHeader rowOne] }
        { capt with lastHeaderPacket := rowOne, actions := [.paintHoldHeader tunedHeader] } :=
  ⟨⟨by decide, by decide, by decide, by decide, by decide, by decide, by decide, by decide, by decide⟩,
   rfl, rfl⟩

theorem witness_RetuneActsOnTheNextPacket :
    let s := { capt with answers := [false] }
    s.halted = false ∧ (1 ≤ (8 : Magazine).toNat ∧ (8 : Magazine).toNat ≤ 8) ∧
      1 ≤ (1 : Magazine).toNat ∧
      ((Instr.row1 rowOne).packetRow = some (rowOne, 1) ∧ magazineOf rowOne ≠ 8) ∧
      ((Instr.row1 (rowPacket 0x80 0x00)).packetRow = some (rowPacket 0x80 0x00, 1) ∧
        1 ≤ (1 : Row).toNat ∧ (1 : Row).toNat ≤ 24 ∧ magazineOf (rowPacket 0x80 0x00) = 8 ∧
        s.elideRow ≠ 1 ∧ s.capturing = true ∧ s.answers = false :: []) := by decide

end Sys2Proof.Tests
end

section
/-! PROOFS. The input port: how a byte stream is cut into deliveries (R65, R66). -/

namespace Sys2Proof.Machine

@[simp] theorem cutStreamFuel_nil (n : Nat) : cutStreamFuel n [] = [] := by
  cases n <;> rfl

theorem cutStreamFuel_succ_of_ne_nil (n : Nat) {bs : List Byte} (h : bs ≠ []) :
    cutStreamFuel (n + 1) bs = ⟨bs.take 42, by simp⟩ :: cutStreamFuel n (bs.drop 42) := by
  simp [cutStreamFuel, h]

/-- A delivery takes at least one byte, so fuel for every byte is fuel for the whole stream. -/
theorem cutStreamFuel_getElem?_bytes (n : Nat) (bs : List Byte) (i : Nat) (hfuel : bs.length ≤ n) :
    ((cutStreamFuel n bs)[i]?).map Delivery.bytes =
      if 42 * i < bs.length then some ((bs.drop (42 * i)).take 42) else none := by
  induction n generalizing bs i with
  | zero =>
    obtain rfl : bs = [] := List.eq_nil_of_length_eq_zero (Nat.le_zero.mp hfuel)
    simp
  | succ n ih =>
    by_cases hbs : bs = []
    · simp [hbs]
    · have hpos : 0 < bs.length := List.length_pos_iff.mpr hbs
      rw [cutStreamFuel_succ_of_ne_nil n hbs]
      cases i with
      | zero => simp [hpos]
      | succ j =>
        have hrest : (bs.drop 42).length ≤ n := by rw [List.length_drop]; omega
        have hlonger : 42 * j < bs.length - 42 ↔ 42 * (j + 1) < bs.length := by omega
        have hoffset : 42 + 42 * j = 42 * (j + 1) := by omega
        rw [List.getElem?_cons_succ, ih _ _ hrest, List.length_drop, List.drop_drop, hoffset]
        simp only [hlonger]

/-- Settles O15: the cut at a fuel of one unit per byte. -/
theorem streamIsCutEvery42Bytes : Obligations.StreamIsCutEvery42Bytes := fun bs i =>
  cutStreamFuel_getElem?_bytes bs.length bs i le_rfl

end Sys2Proof.Machine
end

section
/-! PROOFS. The Field Decoder (`40_field_decoder.md`): the nibble of a byte, the two address bytes, the
page number and the control flag (R100 to R111). -/

namespace Sys2Proof.Machine

/-! ### The nibble and the check bits -/

/-- R100: the data bits are the odd bits of the byte. -/
theorem decodeField_getLsbD :
    ∀ b : Byte, ∀ k < 4, (decodeField b).getLsbD k = b.getLsbD (2 * k + 1) := by decide

theorem decodeField_eq_of_dataBits {b c : Byte}
    (h : ∀ k < 4, b.getLsbD (2 * k + 1) = c.getLsbD (2 * k + 1)) : decodeField b = decodeField c :=
  BitVec.eq_of_getLsbD_eq fun k hk => by
    rw [decodeField_getLsbD b k hk, decodeField_getLsbD c k hk, h k hk]

theorem decodeField_and_dataMask (b : Byte) : decodeField (b &&& 0xAA#8) = decodeField b := by
  have hmask : ∀ k < 4, (0xAA#8).getLsbD (2 * k + 1) = true := by decide
  exact decodeField_eq_of_dataBits fun k hk => by rw [BitVec.getLsbD_and, hmask k hk, Bool.and_true]

theorem decodeField_xor_checkBit (b : Byte) {j : Nat} (hj : j < 4) :
    decodeField (b ^^^ (1#8 <<< (2 * j))) = decodeField b := by
  have hflip : ∀ j < 4, ∀ k < 4, (1#8 <<< (2 * j)).getLsbD (2 * k + 1) = false := by decide
  exact decodeField_eq_of_dataBits fun k hk => by
    rw [BitVec.getLsbD_xor, hflip j hj k hk, Bool.xor_false]

theorem decodeField_or_checkBits (b m : Byte) : decodeField (b ||| (m &&& 0x55#8)) = decodeField b := by
  have hmask : ∀ k < 4, (0x55#8).getLsbD (2 * k + 1) = false := by decide
  exact decodeField_eq_of_dataBits fun k hk => by
    rw [BitVec.getLsbD_or, BitVec.getLsbD_and, hmask k hk, Bool.and_false, Bool.or_false]

/-- A byte is its data bits, as `E0` lays them out, and its own check bits. -/
theorem E0_decodeField_or_checkBits : ∀ b : Byte, E0 (decodeField b) ||| (b &&& 0x55#8) = b := by decide

theorem decodeField_eq_iff (b : Byte) (n : Nibble) :
    decodeField b = n ↔ ∃ m : Byte, b = E0 n ||| (m &&& 0x55#8) := by
  constructor
  · rintro rfl
    exact ⟨b, (E0_decodeField_or_checkBits b).symm⟩
  · rintro ⟨m, rfl⟩
    rw [decodeField_or_checkBits, decodeField_E0]

/-- R101's count, over the table of the 256 bytes. -/
theorem sixteen_bytes_decode_to : ∀ n : Nibble,
    ((List.range 256).filter fun k => decide (decodeField (BitVec.ofNat 8 k) = n)).length = 16 := by
  decide

/-- Settles O2: only the odd bits reach the nibble, and a byte is its data bits with its check bits. -/
theorem decodeFieldIgnoresCheckBits : Obligations.DecodeFieldIgnoresCheckBits :=
  ⟨fun b => (decodeField_and_dataMask b).symm, fun b _ => decodeField_xor_checkBit b, decodeField_eq_iff,
    sixteen_bytes_decode_to⟩

/-! ### The address bytes -/

/-- R103: the remainder 0 is magazine 8. -/
theorem decodeAddress_magazine_toNat (b0 b1 : Byte) :
    (decodeAddress b0 b1).1.toNat =
      if (decodeField b0).toNat % 8 = 0 then 8 else (decodeField b0).toNat % 8 := by
  have hmod : (decodeField b0 % 8#4).toNat = (decodeField b0).toNat % 8 := BitVec.toNat_umod
  rw [← hmod, decodeAddress, apply_ite BitVec.toNat]
  simp only [← BitVec.toNat_inj, BitVec.toNat_ofNat]

/-- R103: no carry leaves the five bits of the row. -/
theorem decodeAddress_row_toNat (b0 b1 : Byte) :
    (decodeAddress b0 b1).2.toNat =
      2 * (decodeField b1).toNat + (if (decodeField b0).getLsbD 3 then 1 else 0) := by
  have hdouble : ∀ (n : Nibble) (l : Bool),
      ((n.setWidth 5 <<< 1) + (if l then 1#5 else 0#5)).toNat = 2 * n.toNat + (if l then 1 else 0) := by
    decide
  rw [decodeAddress_row, decodeField_getLsbD b0 3 (by decide), hdouble]

/-- Settles O3: the magazine and the row in naturals. -/
theorem addressSplitsIntoMagazineAndRow : Obligations.AddressSplitsIntoMagazineAndRow := fun b0 b1 =>
  ⟨decodeAddress_magazine_toNat b0 b1, decodeAddress_row_toNat b0 b1⟩

theorem decodeAddress_legalMagazine (b0 b1 : Byte) : legalMagazine (decodeAddress b0 b1).1 = true := by
  rw [legalMagazine_iff, decodeAddress_magazine_toNat]
  split <;> omega

/-- Without the remap: a legal magazine is known by its remainder, and bit 3 of a nibble is its quotient by 8. -/
theorem decodeAddress_eq_mk_iff (b0 b1 : Byte) {m : Magazine} (hm : legalMagazine m = true) (r : Row) :
    decodeAddress b0 b1 = (m, r) ↔
      (decodeField b0).toNat % 8 = m.toNat % 8 ∧
        2 * (decodeField b1).toNat + (decodeField b0).toNat / 8 = r.toNat := by
  have hbit : ∀ n : Nibble, (if n.getLsbD 3 then 1 else 0) = n.toNat / 8 := by decide
  have hmagazine : (decodeAddress b0 b1).1.toNat = m.toNat ↔
      (decodeField b0).toNat % 8 = m.toNat % 8 := by
    obtain ⟨hlow, hhigh⟩ := (legalMagazine_iff m).1 hm
    rw [decodeAddress_magazine_toNat]
    split <;> omega
  rw [Prod.ext_iff, ← BitVec.toNat_inj, ← BitVec.toNat_inj, hmagazine, decodeAddress_row_toNat, hbit]

/-- The address bytes of the reference encoder (R91) are read back, in any coding that `decodeField`
undoes. -/
theorem decodeAddress_refMrag {E : Nibble → Byte} (hE : ∀ n, decodeField (E n) = n) {m : Magazine}
    (hm : legalMagazine m = true) (r : Row) : decodeAddress (refMrag0 E m r) (refMrag1 E r) = (m, r) := by
  have hfirst : ∀ (m : Magazine) (r : Row),
      ((m % 8#4) ||| ((r &&& 1#5).setWidth 4 <<< 3)).toNat = m.toNat % 8 + 8 * (r.toNat % 2) := by decide
  have hsecond : ∀ r : Row, ((r >>> 1).setWidth 4).toNat = r.toNat / 2 := by decide
  rw [decodeAddress_eq_mk_iff _ _ hm, refMrag0, refMrag1, hE, hE, hfirst, hsecond]
  omega

/-- Equal addresses are equal nibbles: the row gives the second nibble and bit 3 of the first, the
magazine its other three bits. -/
theorem decodeAddress_eq_iff (b0 b1 c0 c1 : Byte) :
    decodeAddress b0 b1 = decodeAddress c0 c1 ↔
      decodeField b0 = decodeField c0 ∧ decodeField b1 = decodeField c1 := by
  have hlegal := decodeAddress_legalMagazine c0 c1
  rcases hc : decodeAddress c0 c1 with ⟨m, r⟩
  rw [hc] at hlegal
  obtain ⟨hmagazine, hrow⟩ := (decodeAddress_eq_mk_iff c0 c1 hlegal r).1 hc
  rw [decodeAddress_eq_mk_iff b0 b1 hlegal, ← BitVec.toNat_inj, ← BitVec.toNat_inj]
  omega

/-- Settles O4: the pair of nibbles is the one the reference encoder writes. -/
theorem addressIsBijectionOnDataBits : Obligations.AddressIsBijectionOnDataBits := by
  refine ⟨decodeAddress_legalMagazine, fun m r hm =>
    ⟨decodeField (refMrag0 E0 m r), decodeField (refMrag1 E0 r), fun b0 b1 => ?_⟩⟩
  rw [← decodeAddress_refMrag decodeField_E0 hm r, decodeAddress_eq_iff]

/-! ### The page number and the control flag -/

/-- Settles O5: two nibbles fill the eight bits, so nothing wraps. -/
theorem pageNumberIsTensAndUnits : Obligations.PageNumberIsTensAndUnits := fun p => by
  have htens := (decodeField (byteAt p 3)).isLt
  have hunits := (decodeField (byteAt p 2)).isLt
  rw [decodePageNumber, BitVec.toNat_add, BitVec.toNat_mul, BitVec.toNat_setWidth, BitVec.toNat_setWidth,
    BitVec.toNat_ofNat]
  omega

theorem getLsbD_one_eq_decide_and : ∀ b : Byte, b.getLsbD 1 = decide (b &&& 0x02#8 ≠ 0#8) := by decide

/-- Settles O7: bit 0 of the nibble is bit 1 of the byte. -/
theorem controlFlagIsBitOneOfOffsetEight : Obligations.ControlFlagIsBitOneOfOffsetEight := fun p =>
  ⟨rfl, (decodeField_getLsbD _ 0 (by decide)).trans (getLsbD_one_eq_decide_and _)⟩

end Sys2Proof.Machine
end

section
/-! PROOFS. The classifier's front (`41_packet_classifier.md`): the magazine filter (R123) and the deliveries
that are fatal (R122). -/

namespace Sys2Proof.Machine

/-! ### The magazine filter -/

/-- Settles O30: each class is a packet step, which drops a packet of another magazine. -/
theorem otherMagazineIsDropped : Obligations.OtherMagazineIsDropped := fun i p r s hrow hrun hmag => by
  rw [exec_packet hrow, packetStep_dropped hrun hmag]

/-! ### The engine raises no `FatalIngest`

`FatalIngest` is known by what its entry does (R201): it halts and emits `LogFatal`. -/

/-- From `s` to `t` nothing halted the block or resumed it, and no `LogFatal` was emitted. -/
structure NoFatal (s t : State) : Prop where
  halted : t.halted = s.halted
  logFatal : Action.logFatal ∈ t.actions → Action.logFatal ∈ s.actions

theorem NoFatal.refl (s : State) : NoFatal s s := ⟨rfl, id⟩

theorem NoFatal.trans {s t u : State} (h : NoFatal s t) (h' : NoFatal t u) : NoFatal s u :=
  ⟨h'.halted.trans h.halted, h.logFatal ∘ h'.logFatal⟩

theorem NoFatal.ite {s t u : State} {c : Prop} [Decidable c] (ht : NoFatal s t) (hu : NoFatal s u) :
    NoFatal s (if c then t else u) := by
  split
  · exact ht
  · exact hu

theorem emit_noFatal {a : Action} (h : a ≠ .logFatal) (s : State) : NoFatal s (emit a s) :=
  ⟨rfl, by simp [h.symm]⟩

theorem setMarker_noFatal (v : Row) (s : State) : NoFatal s (setMarker v s) := ⟨rfl, id⟩

theorem markSeen_noFatal (row : Row) (s : State) : NoFatal s (markSeen row s) := ⟨rfl, id⟩

theorem recomputeCapturing_noFatal (p : Packet) (s : State) : NoFatal s (recomputeCapturing p s) := ⟨rfl, id⟩

theorem headerMatched_noFatal (p : Packet) (s : State) : NoFatal s (headerMatched p s) := by
  rw [headerMatched_eq]
  exact ⟨rfl, by split <;> simp⟩

theorem headerMissed_noFatal (s : State) : NoFatal s (headerMissed s) := by
  rw [headerMissed_eq]
  exact ⟨rfl, by split <;> simp⟩

theorem headerSeeking_noFatal (s : State) : NoFatal s (headerSeeking s) := by
  rw [headerSeeking_eq]
  exact ⟨rfl, by split <;> simp⟩

theorem paintHeader_noFatal (p : Packet) (s : State) : NoFatal s (paintHeader p s) :=
  emit_noFatal (by simp) s

theorem headerLive_noFatal (p : Packet) (s : State) : NoFatal s (headerLive p s) :=
  (recomputeCapturing_noFatal p s).trans <|
    (NoFatal.ite (headerMatched_noFatal p _) (headerMissed_noFatal _)).trans <|
      (headerSeeking_noFatal _).trans (paintHeader_noFatal p _)

theorem headerStep_noFatal (p : Packet) (s : State) : NoFatal s (headerStep p s) :=
  (setMarker_noFatal 0 s).trans (.ite (emit_noFatal (by simp) _) (headerLive_noFatal p _))

theorem paintText_noFatal (p : Packet) (row : Row) (s : State) : NoFatal s (paintText p row s) := by
  rw [paintText_eq]
  exact ⟨rfl, by simp⟩

theorem captureRow_noFatal (p : Packet) (row : Row) (s : State) : NoFatal s (captureRow p row s) :=
  (markSeen_noFatal row s).trans <|
    (NoFatal.ite (paintText_noFatal p row _) (.refl _)).trans <|
      (NoFatal.ite (emit_noFatal (by simp) _) (.refl _)).trans <|
        .ite (emit_noFatal (by simp) _) (.refl _)

theorem rowStep_noFatal (p : Packet) (row : Row) (s : State) : NoFatal s (rowStep p row s) :=
  .ite ((emit_noFatal (by simp) s).trans (setMarker_noFatal 0 _))
    (.ite (captureRow_noFatal p row s) (.refl s))

/-- While running, every packet instruction answers a next state, dropped or not. -/
theorem exec_packet_noFatal {i : Instr} {p : Packet} {r : Row} {s : State}
    (hrow : i.packetRow = some (p, r)) (hrun : s.halted = false) :
    ∃ t, exec i s = .next t ∧ NoFatal s t := by
  rw [exec_packet hrow]
  by_cases hmag : magazineOf p = s.currentMag
  · refine ⟨_, packetStep_accepted ⟨hrun, hmag⟩ _, ?_⟩
    split
    · exact headerStep_noFatal p s
    · exact rowStep_noFatal p r s
  · exact ⟨s, packetStep_dropped hrun hmag _, .refl s⟩

/-! ### A packet turn -/

theorem step_packet {s : State} (hrun : s.halted = false) (hturn : nextTurn s = .packet) :
    step s = servePacket (beginStep s) := by
  rw [step, hturn, serve, whenRunning_running (by rw [beginStep_halted, hrun])]

theorem nextDelivery_beginStep {s : State} {d : Delivery} {later : List Delivery} (h : s.pkt = d :: later) :
    nextDelivery (beginStep s) = d := by
  rw [nextDelivery, beginStep_pkt, h]

/-- R122: the fatal entry is the whole step. -/
theorem step_short_delivery {s : State} {d : Delivery} {later : List Delivery} (hrun : s.halted = false)
    (hturn : nextTurn s = .packet) (hpkt : s.pkt = d :: later) (hshort : d.bytes.length < 42) :
    ∃ rest : List Action, (rest = [] ∨ rest = [.cleanup]) ∧
      step s = .next { beginStep s with
        pkt := later
        buffer := []
        halted := true
        haltCause := .shortPacket
        actions := .logFatal :: rest } := by
  have hd := nextDelivery_beginStep hpkt
  obtain ⟨rest, hrest, hfatal⟩ := raiseFatalIngest_eq (fillBuffer d (dropDelivery (beginStep s)))
  refine ⟨rest, hrest, ?_⟩
  rw [step_packet hrun hturn, servePacket_error (by rw [hd]; exact decode_short _ _ hshort), hd, hfatal]
  simp [releaseBuffer, fillBuffer, dropDelivery, hpkt]

theorem step_full_delivery {s : State} {d : Delivery} {later : List Delivery} (hrun : s.halted = false)
    (hturn : nextTurn s = .packet) (hpkt : s.pkt = d :: later) (hfull : d.bytes.length = 42) :
    ∃ t, step s = .next t ∧ t.halted = false ∧ Action.logFatal ∉ t.actions := by
  have hd := nextDelivery_beginStep hpkt
  have hrow := instrOfRow_packetRow (rowOf ⟨d.bytes, hfull⟩) ⟨d.bytes, hfull⟩
  obtain ⟨t, hexec, hhalted, hlog⟩ :=
    exec_packet_noFatal (s := fillBuffer d (dropDelivery (beginStep s))) hrow (by simp [hrun])
  refine ⟨releaseBuffer t, ?_, by simp [hhalted, hrun], fun h => by simpa using hlog h⟩
  rw [step_packet hrun hturn, servePacket_ok (by rw [hd]; exact decode_full _ _ hfull), hd, decodePacket,
    hexec, mapNext_next]

/-- Settles O19: a short delivery decodes to no packet, and a full one runs the engine, which raises no
`FatalIngest`. -/
theorem shortDeliveryIsFatal : Obligations.ShortDeliveryIsFatal := fun _ _ _ hrun hturn hpkt =>
  ⟨step_short_delivery hrun hturn hpkt, step_full_delivery hrun hturn hpkt⟩

end Sys2Proof.Machine
end

section
/-! PROOFS. The page capture engine (`42_page_capture.md`): the header transition (R142 to R149) and the row
transition (R150 to R157). -/

namespace Sys2Proof.Machine

/-! ### An accepted packet runs its row's transition -/

theorem exec_hdr_accepted {s : State} {p : Packet} (h : Accepts s p) :
    exec (.hdr p) s = .next (headerStep p s) := packetStep_accepted h _

theorem exec_hdr_live {s : State} {p : Packet} (h : Accepts s p) (hhold : s.holdMode = false) :
    exec (.hdr p) s = .next (headerLive p (setMarker 0 s)) := by
  rw [exec_hdr_accepted h, headerStep_live hhold]

theorem exec_row_accepted {i : Instr} {p : Packet} {r : Row} {s : State} (hrow : i.packetRow = some (p, r))
    (hr : r ≠ 0#5) (h : Accepts s p) : exec i s = .next (rowStep p r s) := by
  rw [exec_row hrow hr, packetStep_accepted h]

/-! ### The live header, whole, in its two cases -/

/-- The actions of a live header ahead of its `PaintHeader` (R146 to R148). -/
def beforePaint (p : Packet) (s : State) : List Action :=
  if decodePageNumber p = s.currentPage then
    if decodeSubcode p = s.lastSubcode then [] else [.rendererClear]
  else
    (if s.wasCapturing then (unseenRows s).map .blankRow else []) ++
      if s.seeking then [.colorReset] else []

@[simp] theorem beforePaint_setMarker (v : Row) (p : Packet) (s : State) :
    beforePaint p (setMarker v s) = beforePaint p s := rfl

theorem headerLive_matched {p : Packet} {s : State} (h : decodePageNumber p = s.currentPage) :
    headerLive p s = { s with
      capturing := true
      wasCapturing := true
      seeking := false
      rowCounter := 0
      lastHeaderPacket := p
      suppressHeader := decodeControlFlag p
      rowsSeen := if decodeSubcode p = s.lastSubcode then s.rowsSeen else 0#32
      lastSubcode := decodeSubcode p
      actions := s.actions ++ beforePaint p s ++
        [.paintHeader p s.currentMag s.currentPage false (decodeControlFlag p)] } := by
  simp [headerLive, headerMatched_eq, headerSeeking_eq, paintHeader, recomputeCapturing, emit, beforePaint, h]

theorem headerLive_missed {p : Packet} {s : State} (h : decodePageNumber p ≠ s.currentPage) :
    headerLive p s = { s with
      capturing := false
      wasCapturing := false
      rowsSeen := if s.wasCapturing then 0#32 else s.rowsSeen
      suppressHeader := if s.seeking then false else s.suppressHeader
      actions := s.actions ++ beforePaint p s ++
        [.paintHeader p s.currentMag s.currentPage s.seeking
          (if s.seeking then false else s.suppressHeader)] } := by
  simp [headerLive, headerMissed_eq, headerSeeking_eq, paintHeader, recomputeCapturing, emit, beforePaint,
    unseenRows, isSeen, h]

theorem headerLive_elideRow (p : Packet) (s : State) : (headerLive p s).elideRow = s.elideRow := by
  by_cases h : decodePageNumber p = s.currentPage
  · rw [headerLive_matched h]
  · rw [headerLive_missed h]

theorem headerLive_capturing (p : Packet) (s : State) :
    (headerLive p s).capturing = decide (decodePageNumber p = s.currentPage) := by
  by_cases h : decodePageNumber p = s.currentPage
  · rw [headerLive_matched h, decide_eq_true h]
  · rw [headerLive_missed h, decide_eq_false h]

theorem headerLive_seeking (p : Packet) (s : State) :
    (headerLive p s).seeking = (s.seeking && decide (decodePageNumber p ≠ s.currentPage)) := by
  by_cases h : decodePageNumber p = s.currentPage
  · simp [headerLive_matched h, h]
  · simp [headerLive_missed h, h]

theorem headerLive_suppressHeader (p : Packet) (s : State) :
    (headerLive p s).suppressHeader = if decodePageNumber p = s.currentPage then decodeControlFlag p
      else if s.seeking then false else s.suppressHeader := by
  by_cases h : decodePageNumber p = s.currentPage
  · rw [headerLive_matched h, if_pos h]
  · rw [headerLive_missed h, if_neg h]

/-- R149: the paint comes last and carries the two flags as they are left. -/
theorem headerLive_actions (p : Packet) (s : State) :
    (headerLive p s).actions = s.actions ++ beforePaint p s ++
      [.paintHeader p s.currentMag s.currentPage (headerLive p s).seeking
        (headerLive p s).suppressHeader] := by
  by_cases h : decodePageNumber p = s.currentPage
  · rw [headerLive_matched h]
  · rw [headerLive_missed h]

theorem headerStep_elideRow (p : Packet) (s : State) : (headerStep p s).elideRow = 0#5 := by
  cases h : s.holdMode
  · rw [headerStep_live h, headerLive_elideRow, setMarker_elideRow, BitVec.ofNat_eq_ofNat]
  · rw [headerStep_held h, emit_elideRow, setMarker_elideRow, BitVec.ofNat_eq_ofNat]

/-- Settles O31: hold is tested once the marker is cleared, before anything else. -/
theorem heldHeaderOnlyClearsTheMarker : Obligations.HeldHeaderOnlyClearsTheMarker := fun p s h hhold => by
  rw [exec_hdr_accepted h, headerStep_held hhold]
  rfl

/-- Settles O32: the marker is cleared first and no later part of the header writes it. -/
theorem everyHeaderClearsTheMarker : Obligations.EveryHeaderClearsTheMarker := fun p s h =>
  ⟨_, exec_hdr_accepted h, headerStep_elideRow p s⟩

/-- Settles O33: the matched case of the live header, after the marker is cleared. -/
theorem matchingHeaderCaptures : Obligations.MatchingHeaderCaptures := fun p s h hhold hpage => by
  rw [exec_hdr_live h hhold, headerLive_matched (s := setMarker 0 s) hpage, beforePaint_setMarker,
    beforePaint, if_pos hpage]
  rfl

/-- Settles O34: `capturing` is the comparison of the two page numbers, which no later part writes. -/
theorem liveHeaderDecidesCapturing : Obligations.LiveHeaderDecidesCapturing := fun p s h hhold => by
  refine ⟨_, exec_hdr_live h hhold, ?_⟩
  rw [headerLive_capturing, setMarker_currentPage, decide_eq_true_eq, BitVec.toNat_inj]

/-! ### The rows blanked at the end of a cycle -/

theorem mem_textRows : ∀ r : Row, r ∈ textRows ↔ 1 ≤ r.toNat ∧ r.toNat ≤ 24 := by decide

theorem textRows_nodup : textRows.Nodup := by decide

theorem mem_unseenRows (r : Row) (s : State) :
    r ∈ unseenRows s ↔ 1 ≤ r.toNat ∧ r.toNat ≤ 24 ∧ s.rowsSeen.getLsbD r.toNat = false := by
  simp [unseenRows, isSeen, mem_textRows, and_assoc]

/-- R147: each unseen text row once, no other row. -/
theorem count_blankRow_unseenRows (r : Row) (s : State) :
    ((unseenRows s).map Action.blankRow).count (.blankRow r) =
      if 1 ≤ r.toNat ∧ r.toNat ≤ 24 ∧ s.rowsSeen.getLsbD r.toNat = false then 1 else 0 := by
  have hinj : Function.Injective Action.blankRow := fun _ _ => Action.blankRow.inj
  have hnodup : (unseenRows s).Nodup := textRows_nodup.filter _
  rw [List.count_map_of_injective _ _ hinj, hnodup.count]
  simp only [mem_unseenRows]

theorem count_blankRow_beforePaint (p : Packet) (s : State) (r : Row) :
    (beforePaint p s).count (.blankRow r) =
      if decodePageNumber p ≠ s.currentPage ∧ s.wasCapturing = true ∧ 1 ≤ r.toNat ∧ r.toNat ≤ 24 ∧
        s.rowsSeen.getLsbD r.toNat = false then 1 else 0 := by
  by_cases hpage : decodePageNumber p = s.currentPage
  · by_cases hsub : decodeSubcode p = s.lastSubcode <;> simp [beforePaint, hpage, hsub]
  · have hreset : (if s.seeking then [Action.colorReset] else []).count (.blankRow r) = 0 := by
      cases s.seeking <;> simp
    cases hwas : s.wasCapturing <;>
      simp [beforePaint, hpage, hwas, hreset, count_blankRow_unseenRows]

theorem count_colorReset_beforePaint (p : Packet) (s : State) :
    (beforePaint p s).count .colorReset =
      if decodePageNumber p ≠ s.currentPage ∧ s.seeking = true then 1 else 0 := by
  by_cases hpage : decodePageNumber p = s.currentPage
  · by_cases hsub : decodeSubcode p = s.lastSubcode <;> simp [beforePaint, hpage, hsub]
  · have hblank :
        (if s.wasCapturing then (unseenRows s).map Action.blankRow else []).count .colorReset = 0 := by
      cases s.wasCapturing <;> simp [List.count_eq_zero]
    cases hseek : s.seeking <;> simp [beforePaint, hpage, hseek, hblank]

theorem paintHeader_notMem_beforePaint (p q : Packet) (s : State) (m : Magazine) (pg : Page) (sk sp : Bool) :
    Action.paintHeader q m pg sk sp ∉ beforePaint p s := by
  unfold beforePaint
  split_ifs <;> simp

/-- Settles O36: the paint of the header line blanks nothing, so the count is that of the actions ahead
of it. -/
theorem cycleEndBlanksExactlyTheUnseenRows : Obligations.CycleEndBlanksExactlyTheUnseenRows :=
  fun p s h hhold => by
  have hactions := (headerLive_actions p (setMarker 0 s)).trans (List.append_assoc ..)
  refine ⟨_, _, exec_hdr_live h hhold, hactions, fun r => ?_, fun hpage => ?_⟩
  · rw [List.count_append, beforePaint_setMarker, count_blankRow_beforePaint]
    simp
  · rw [headerLive_missed (s := setMarker 0 s) hpage]
    exact ⟨rfl, rfl⟩

/-- Settles O37: the last action is the paint, and the actions ahead of it hold none. -/
theorem liveHeaderPaintsOnceAtTheEnd : Obligations.LiveHeaderPaintsOnceAtTheEnd := fun p s h hhold =>
  ⟨_, beforePaint p s, exec_hdr_live h hhold, headerLive_actions p (setMarker 0 s),
    fun q => paintHeader_notMem_beforePaint p q s, headerLive_seeking p (setMarker 0 s),
    headerLive_suppressHeader p (setMarker 0 s), count_colorReset_beforePaint p s⟩

/-! ### The row transition -/

theorem rowStep_unmarked {s : State} {row : Row} (h : s.elideRow ≠ row) (p : Packet) :
    rowStep p row s = if s.capturing then captureRow p row s else s := by
  rw [rowStep, if_neg h]

/-- Past the last text row the marker, which is at most 25, can only be row 25. -/
theorem marker_ne_of_lt {s : State} {r : Row} (hmark : s.elideRow.toNat ≤ 25) (hr : 25 < r.toNat) :
    s.elideRow ≠ r := by
  rintro rfl
  omega

/-- R154 to R157: the four classes of a captured row. -/
theorem row_class (r : Row) :
    r.toNat ≤ 24 ∨ (r = 26#5 ∨ r = 28#5) ∨ r = 27#5 ∨ (r = 25#5 ∨ 29 ≤ r.toNat) := by
  bv_omega

/-- R152: whatever its class, a captured row is marked seen and no other row is. -/
theorem captureRow_rowsSeen (p : Packet) (r : Row) (s : State) :
    (captureRow p r s).rowsSeen = s.rowsSeen ||| (1#32 <<< r.toNat) := by
  rcases row_class r with htext | hmeta | rfl | hign
  · rw [captureRow_text htext, paintText_eq]; rfl
  · rw [captureRow_meta hmeta]; rfl
  · rw [captureRow_link]; rfl
  · rw [captureRow_ignored hign]; rfl

theorem getLsbD_or_row (seen : BitVec 32) (r k : Row) :
    (seen ||| (1#32 <<< r.toNat)).getLsbD k.toNat = (decide (k = r) || seen.getLsbD k.toNat) := by
  have hbit : r.toNat = k.toNat ↔ k = r := by rw [BitVec.toNat_inj, eq_comm]
  have hlt : r.toNat < 32 := r.isLt
  rw [BitVec.getLsbD_or, ← BitVec.twoPow_eq, BitVec.getLsbD_twoPow, Bool.or_comm]
  simp only [hbit, hlt, decide_true, Bool.true_and]

/-- Settles O38: the elision test comes first in the row transition. -/
theorem markedRowIsSkipped : Obligations.MarkedRowIsSkipped := fun i p r s hrow hr h hmark => by
  rw [exec_row_accepted hrow hr h, rowStep_marked hmark]
  rfl

/-- Settles O39: the gate of the row transition, and what each captured class does to the row set. -/
theorem captureGateMarksTheRow : Obligations.CaptureGateMarksTheRow := fun i p r s hrow hr h hmark => by
  rw [exec_row_accepted hrow hr h]
  refine ⟨fun hcap => by rw [rowStep_idle hmark hcap], fun hcap => ⟨_, rfl, fun k => ?_⟩⟩
  rw [rowStep_capture hmark hcap, captureRow_rowsSeen, getLsbD_or_row]

/-- Settles O41: the marker never reaches the rows 26 and 28. -/
theorem enhancementRowIsForwarded : Obligations.EnhancementRowIsForwarded :=
  fun i p r s hrow hclass h hmark => by
  have hr : 25 < r.toNat := by rcases hclass with rfl | rfl <;> decide
  rw [exec_row_accepted hrow (by rintro rfl; simp at hr) h, rowStep_unmarked (marker_ne_of_lt hmark hr),
    captureRow_meta hclass]
  rfl

/-- Settles O42: the marker never reaches row 27. -/
theorem linkRowIsForwarded : Obligations.LinkRowIsForwarded := fun p s h hmark => by
  rw [exec_row_accepted (r := 27#5) rfl (by decide) h,
    rowStep_unmarked (marker_ne_of_lt hmark (by decide)), captureRow_link]
  rfl

/-- Settles O43: of the ignored rows only row 25 can be the marked one. -/
theorem ignoredRowIsOnlyMarked : Obligations.IgnoredRowIsOnlyMarked := fun i p r s hrow hclass h hmark => by
  have hr : r ≠ 0#5 := by rintro rfl; simp at hclass
  rw [exec_row_accepted hrow hr h]
  by_cases hskip : r = 25#5 ∧ s.elideRow = 25#5
  · obtain ⟨rfl, h25⟩ := hskip
    rw [rowStep_marked h25, if_pos ⟨rfl, h25⟩]
    rfl
  · have hne : s.elideRow ≠ r := by
      rintro rfl
      exact hskip (by bv_omega)
    rw [rowStep_unmarked hne, captureRow_ignored hclass, if_neg hskip]
    rfl

end Sys2Proof.Machine
end

section
/-! PROOFS. The host commands (`43_host_control.md`): `HOLD`, `REVEAL` and `NOCMD` (R172, R173, R175). -/

namespace Sys2Proof.Machine

/-- R173: the mirror bit and the action in one next state. -/
theorem toggleReveal_eq (s : State) :
    toggleReveal s =
      { s with revealMode := !s.revealMode, actions := s.actions ++ [.toggleReveal] } := rfl

theorem exec_hold_running {s : State} (h : s.halted = false) : exec .hold s = .next (toggleHold s) :=
  whenRunning_running h _

theorem exec_reveal_running {s : State} (h : s.halted = false) :
    exec .reveal s = .next (toggleReveal s) :=
  whenRunning_running h _

/-- R175: the character plays no part. -/
theorem exec_nocmd_running (c : Option Byte) {s : State} (h : s.halted = false) :
    exec (.nocmd c) s = .next s :=
  whenRunning_running h _

/-- Settles O47: `HOLD` is `toggleHold`, which writes the one register. -/
theorem holdToggles : Obligations.HoldToggles := fun s h => by
  rw [exec_hold_running h, toggleHold]

/-- Settles O48: `REVEAL` is `toggleReveal`, the flip and the one action. -/
theorem revealToggles : Obligations.RevealToggles := fun s h => by
  rw [exec_reveal_running h, toggleReveal_eq]

/-- Settles O54: the guard is all that `NOCMD` evaluates. -/
theorem noCommandDoesNothing : Obligations.NoCommandDoesNothing := fun c _ h => exec_nocmd_running c h

end Sys2Proof.Machine
end

section
/-! PROOFS. What every instruction may write: the host's side, moved only by the control port (R170), and the
engine's side, moved only by packets (R150, R209). -/

namespace Sys2Proof.Machine

/-! ### The commands -/

/-- The meanings the host commands have while running (R175 to R180). -/
inductive CommandMeaning : (State → Result) → Prop
  | nothing : CommandMeaning .next
  | hold : CommandMeaning fun s => .next (toggleHold s)
  | reveal : CommandMeaning fun s => .next (toggleReveal s)
  | quit : CommandMeaning fun s => .next (halt .quit s)
  | digit {c : Byte} (hc : isDigit c = true) : CommandMeaning (digitStep c)
  | favourite (slot : Fin 4) : CommandMeaning (favouriteStep slot)

/-- R88: a command is one of these meanings behind the guard, whatever the state. -/
theorem exec_command : ∀ {i : Instr}, i.packetRow = none →
    ∃ f, CommandMeaning f ∧ ∀ s, exec i s = whenRunning s (f s)
  | .hold, _ => ⟨_, .hold, fun _ => rfl⟩
  | .reveal, _ => ⟨_, .reveal, fun _ => rfl⟩
  | .quit, _ | .quitEsc, _ => ⟨_, .quit, fun _ => rfl⟩
  | .digit0, _ | .digit1, _ | .digit2, _ | .digit3, _ | .digit4, _ | .digit5, _ | .digit6, _
  | .digit7, _ | .digit8, _ | .digit9, _ => ⟨_, .digit (by decide), fun _ => rfl⟩
  | .fav0 _, _ | .fav1 _, _ | .fav2 _, _ | .fav3 _, _ => ⟨_, .favourite _, fun _ => rfl⟩
  | .nocmd _, _ => ⟨_, .nothing, fun _ => rfl⟩

/-- What the control port can make of a state: the operations its primitives, the commands and the ends of
a run are made of, each with what the caller has checked. -/
inductive HostMove : State → State → Prop
  | refl (s : State) : HostMove s s
  | trans {s t u : State} : HostMove s t → HostMove t u → HostMove s u
  | emitAll (as : List Action) (s : State) : HostMove s (emitAll as s)
  | hold (s : State) : HostMove s (toggleHold s)
  | reveal (s : State) : HostMove s (toggleReveal s)
  | halt {cause : HaltCause} (h : cause ≠ .none) (s : State) : HostMove s (haltWith cause s)
  | tune {m : Magazine} (h : legalMagazine m = true) (pg : Page) (s : State) : HostMove s (tune m pg s)
  | push {c : Byte} (h : isDigit c = true) (s : State) : HostMove s (pushDigit c s)

theorem HostMove.emit (a : Action) (s : State) : HostMove s (emit a s) := .emitAll [a] s

theorem HostMove.haltCleanup {cause : HaltCause} (h : cause ≠ .none) (s : State) :
    HostMove s (Machine.halt cause s) := (HostMove.halt h s).trans (.emit ..)

theorem HostMove.fatal (s : State) : HostMove s (raiseFatalIngest s) :=
  (HostMove.emit .logFatal s).trans ((HostMove.halt (by decide) _).trans (.emitAll _ _))

theorem setTune_hostMove {m : Magazine} {pg : Page} {s t : State} (h : setTune m pg s = .next t) :
    HostMove s t := by
  rcases setTune_cases m pg s with ⟨hm, heq⟩ | ⟨-, heq⟩ <;> cases heq.symm.trans h
  exact .tune hm pg s

theorem digitStep_hostMove {c : Byte} (hc : isDigit c = true) {s t : State} (h : digitStep c s = .next t) :
    HostMove s t := by
  cases (digitStep_eq c s).symm.trans h
  split
  case isTrue hfront =>
    exact (HostMove.push hc s).trans ((HostMove.tune (frontTunes_legal hfront) _ _).trans (.emit ..))
  case isFalse => exact .push hc s

theorem favouriteStep_hostMove {slot : Fin 4} {s t : State} (h : favouriteStep slot s = .next t) :
    HostMove s t := by
  obtain ⟨u, hu, rfl⟩ := mapNext_eq_next.1 h
  exact (setTune_hostMove hu).trans (.emit ..)

theorem CommandMeaning.hostMove {f : State → Result} (hf : CommandMeaning f) {s t : State}
    (h : f s = .next t) : HostMove s t := by
  cases hf with
  | nothing => cases h; exact .refl s
  | hold => cases h; exact .hold s
  | reveal => cases h; exact .reveal s
  | quit => cases h; exact .haltCleanup (by decide) s
  | digit hc => exact digitStep_hostMove hc h
  | favourite slot => exact favouriteStep_hostMove h

theorem exec_command_hostMove {i : Instr} (hi : i.packetRow = none) {s t : State}
    (h : exec i s = .next t) : HostMove s t := by
  obtain ⟨f, hf, heq⟩ := exec_command hi
  exact hf.hostMove (whenRunning_eq_next.1 ((heq s).symm.trans h)).2

theorem execPrimitive_hostMove {p : Primitive} {s t : State} (h : execPrimitive p s = .next t) :
    HostMove s t := by
  obtain ⟨-, h⟩ := whenRunning_eq_next.1 h
  cases p with
  | setTune m pg => exact setTune_hostMove h
  | toggleHold => cases h; exact .hold s
  | toggleReveal => cases h; exact .reveal s
  | haltQuit => cases h; exact .haltCleanup (by decide) s
  | haltInt => cases h; exact .haltCleanup (by decide) s

/-- `s` with the registers that the control port may write (R170) taken from `t`. -/
def withHostSide (t s : State) : State :=
  { s with
    currentMag := t.currentMag, currentPage := t.currentPage, seeking := t.seeking
    holdMode := t.holdMode, revealMode := t.revealMode, entryBuf := t.entryBuf
    halted := t.halted, haltCause := t.haltCause, actions := t.actions }

/-- R170: the control port writes the registers of its side and no other. -/
theorem HostMove.eq_withHostSide {s t : State} (h : HostMove s t) : t = withHostSide t s := by
  induction h with
  | @trans s t u _ _ ih ih' =>
    calc u = withHostSide u t := ih'
      _ = withHostSide u s := by rw [ih]; rfl
  | _ => rfl

theorem HostMove.commandFrame {s t : State} (h : HostMove s t) : CommandFrame s t := by
  rw [h.eq_withHostSide]
  constructor <;> intros <;> rfl

/-- Settles O55: a command is a move of the control port. -/
theorem commandsNeverTouchTracking : Obligations.CommandsNeverTouchTracking := fun _ _ _ hi h =>
  (exec_command_hostMove hi h).commandFrame

/-! ### The packets -/

/-- `s` with the registers that the row transition may write (R150), the renderer's answers and the actions
taken from `t`. -/
def withRowSide (t s : State) : State :=
  { s with
    rowsSeen := t.rowsSeen, elideRow := t.elideRow, rowCounter := t.rowCounter
    answers := t.answers, draws := t.draws, actions := t.actions }

theorem captureRow_eq_withRowSide (p : Packet) (r : Row) (s : State) :
    captureRow p r s = withRowSide (captureRow p r s) s := by
  rcases row_class r with htext | hmeta | rfl | hign
  · rw [captureRow_text htext, paintText_eq]; rfl
  · rw [captureRow_meta hmeta]; rfl
  · rw [captureRow_link]; rfl
  · rw [captureRow_ignored hign]; rfl

/-- R150: the row transition writes the registers of its side and no other. -/
theorem rowStep_eq_withRowSide (p : Packet) (r : Row) (s : State) :
    rowStep p r s = withRowSide (rowStep p r s) s := by
  by_cases hmark : s.elideRow = r
  · rw [rowStep_marked hmark]; rfl
  · rw [rowStep_unmarked hmark]
    split
    · exact captureRow_eq_withRowSide p r s
    · rfl

theorem RowFrame.withRowSide (t s : State) : RowFrame s (withRowSide t s) := by
  have hengine : EngineFrame s (Machine.withRowSide t s) := by constructor <;> intros <;> rfl
  exact ⟨hengine, rfl, rfl, rfl, rfl, rfl, rfl⟩

theorem rowStep_frame (p : Packet) (r : Row) (s : State) : RowFrame s (rowStep p r s) := by
  rw [rowStep_eq_withRowSide]
  exact .withRowSide _ s

/-- `s` with the registers that the header transition may write (R142) and the actions taken from `t`. -/
def withHeaderSide (t s : State) : State :=
  { s with
    capturing := t.capturing, wasCapturing := t.wasCapturing, seeking := t.seeking
    lastSubcode := t.lastSubcode, rowsSeen := t.rowsSeen, elideRow := t.elideRow
    suppressHeader := t.suppressHeader, rowCounter := t.rowCounter
    lastHeaderPacket := t.lastHeaderPacket, actions := t.actions }

theorem headerStep_eq_withHeaderSide (p : Packet) (s : State) :
    headerStep p s = withHeaderSide (headerStep p s) s := by
  cases hhold : s.holdMode
  · rw [headerStep_live hhold]
    by_cases hpage : decodePageNumber p = s.currentPage
    · rw [headerLive_matched (s := setMarker 0 s) hpage]; rfl
    · rw [headerLive_missed (s := setMarker 0 s) hpage]; rfl
  · rw [headerStep_held hhold]; rfl

theorem headerStep_frame (p : Packet) (s : State) : EngineFrame s (headerStep p s) := by
  rw [headerStep_eq_withHeaderSide]
  constructor <;> intros <;> rfl

theorem EngineFrame.refl (s : State) : EngineFrame s s := by
  constructor <;> intros <;> rfl

theorem RowFrame.refl (s : State) : RowFrame s s := ⟨.refl s, rfl, rfl, rfl, rfl, rfl, rfl⟩

/-- What a packet instruction can answer with: the state it was given, the header's or the row's. -/
theorem exec_packet_next {i : Instr} {p : Packet} {r : Row} {s t : State}
    (hrow : i.packetRow = some (p, r)) (h : exec i s = .next t) :
    t = s ∨ (r = 0#5 ∧ t = headerStep p s) ∨ (r ≠ 0#5 ∧ t = rowStep p r s) := by
  rw [exec_packet hrow] at h
  rcases packetStep_cases p (if r = 0#5 then headerStep p else rowStep p r) s with
    ⟨-, heq⟩ | ⟨-, -, heq⟩ | ⟨-, heq⟩ <;> cases heq.symm.trans h
  · exact .inl rfl
  · split
    case isTrue hr => exact .inr (.inl ⟨hr, rfl⟩)
    case isFalse hr => exact .inr (.inr ⟨hr, rfl⟩)

theorem exec_packet_frame {i : Instr} {p : Packet} {r : Row} {s t : State}
    (hrow : i.packetRow = some (p, r)) (h : exec i s = .next t) : EngineFrame s t := by
  rcases exec_packet_next hrow h with rfl | ⟨-, rfl⟩ | ⟨-, rfl⟩
  · exact .refl t
  · exact headerStep_frame p s
  · exact (rowStep_frame p r s).engine

/-- Settles O45: while running each class answers a next state, and its transition keeps the frame. -/
theorem packetsLeaveTheHostSideAlone : Obligations.PacketsLeaveTheHostSideAlone :=
  fun _ _ _ _ hrow hrun => by
  obtain ⟨t, hexec, -⟩ := exec_packet_noFatal hrow hrun
  exact ⟨t, hexec, exec_packet_frame hrow hexec⟩

/-- Settles O46: a row of 1 to 31 is dropped or is the row transition. -/
theorem rowsWriteOnlyTheirThreeRegisters : Obligations.RowsWriteOnlyTheirThreeRegisters :=
  fun i p r s t hrow hr h => by
  rcases exec_packet_next hrow h with rfl | ⟨h0, -⟩ | ⟨-, rfl⟩
  · exact .refl t
  · exact absurd h0 hr
  · exact rowStep_frame p r s

end Sys2Proof.Machine
end

section
/-! PROOFS. The encodings (`30_encoding.md`): packets by their row, commands by their character, and the
reference encoder. -/

namespace Sys2Proof

open Machine

/-! ### Packets -/

/-- R86: a packet instruction is well formed exactly when it holds a packet of its row. -/
theorem Instr.wf_packet {i : Instr} {p : Packet} {r : Row} (h : i.packetRow = some (p, r)) (keys : FavKeys) :
    i.wf keys = true ↔ rowOf p = r := by
  cases i <;> cases h <;> exact beq_iff_eq

theorem encode_packet {i : Instr} {p : Packet} {r : Row} (h : i.packetRow = some (p, r)) (keys : FavKeys) :
    encode keys i = encodeRow p r := by
  cases i <;> cases h <;> rfl

theorem instrOfRow_of_packetRow {i : Instr} {p : Packet} {r : Row} (h : i.packetRow = some (p, r)) :
    instrOfRow r p = i := by
  cases i <;> cases h <;> rfl

theorem decodePacket_packetRow (p : Packet) : (decodePacket p).packetRow = some (p, rowOf p) :=
  instrOfRow_packetRow _ p

/-- Settles O11: the masked word is `match` of the decoded row, and `match` tells the rows apart. -/
theorem rowIsMaskedMatch : Obligations.RowIsMaskedMatch := fun p r => by
  rw [mrag16_masked]
  exact ⟨congrArg matchOfRow, matchOfRow_injective _ _⟩

theorem decode_overlong (keys : FavKeys) (bs : List Byte) (h : 42 < bs.length) :
    decode keys (.packet bs) = .error (.overlongPacket bs.length) := by
  have hfull : bs.length ≠ 42 := by omega
  have hshort : ¬ bs.length < 42 := by omega
  simp [decode, hfull, hshort]

/-- Settles O12: the three ranges of the length. -/
theorem everyFullPacketDecodes : Obligations.EveryFullPacketDecodes := fun keys bs =>
  ⟨fun h => ⟨_, decode_full keys bs h, decodePacket_packetRow _⟩, decode_short keys bs,
    decode_overlong keys bs⟩

/-! ### Commands -/

/-- The fourteen fixed characters of R88, one by one. -/
theorem mem_fixed_of_isFixedCommand : ∀ c : Byte, isFixedCommand c = true →
    c ∈ [0x68#8, 0x72#8, 0x71#8, 0x1B#8, 0x30#8, 0x31#8, 0x32#8, 0x33#8, 0x34#8, 0x35#8, 0x36#8, 0x37#8,
      0x38#8, 0x39#8] := by decide

/-- What it means that an instruction is the one of a command input. -/
def IsCommandOf (keys : FavKeys) (c : Option Byte) (i : Instr) : Prop :=
  i.wf keys = true ∧ encode keys i = .command c

theorem decodeChar_fixed_isCommandOf {c : Byte} (h : isFixedCommand c = true) (keys : FavKeys) :
    IsCommandOf keys (some c) (decodeChar keys c) := by
  have hmem := mem_fixed_of_isFixedCommand c h
  fin_cases hmem <;> exact ⟨rfl, rfl⟩

theorem FavKeys.mem_all {keys : FavKeys} {c : Byte} (h : c ∈ keys.all) :
    ∃ b, c = keys.slot0.pick b ∨ c = keys.slot1.pick b ∨ c = keys.slot2.pick b ∨ c = keys.slot3.pick b := by
  simp only [FavKeys.all, List.mem_cons, List.not_mem_nil, or_false] at h
  rcases h with h | h | h | h | h | h | h | h
  · exact ⟨false, .inl h⟩
  · exact ⟨true, .inl h⟩
  · exact ⟨false, .inr (.inl h)⟩
  · exact ⟨true, .inr (.inl h)⟩
  · exact ⟨false, .inr (.inr (.inl h))⟩
  · exact ⟨true, .inr (.inr (.inl h))⟩
  · exact ⟨false, .inr (.inr (.inr h))⟩
  · exact ⟨true, .inr (.inr (.inr h))⟩

theorem decodeChar_favourite_isCommandOf {keys : FavKeys} (hkeys : keys.wf = true) {c : Byte}
    (h : c ∈ keys.all) : IsCommandOf keys (some c) (decodeChar keys c) := by
  obtain ⟨b, rfl | rfl | rfl | rfl⟩ := FavKeys.mem_all h
  · rw [decodeChar_fav0 hkeys]; exact ⟨rfl, rfl⟩
  · rw [decodeChar_fav1 hkeys]; exact ⟨rfl, rfl⟩
  · rw [decodeChar_fav2 hkeys]; exact ⟨rfl, rfl⟩
  · rw [decodeChar_fav3 hkeys]; exact ⟨rfl, rfl⟩

/-- R88: a character is fixed, a favourite key, or no command. -/
theorem decodeCommand_isCommandOf {keys : FavKeys} (hkeys : keys.wf = true) :
    ∀ c : Option Byte, IsCommandOf keys c (decodeCommand keys c)
  | none => ⟨rfl, rfl⟩
  | some c => by
    cases hfixed : isFixedCommand c
    · by_cases hfav : c ∈ keys.all
      · exact decodeChar_favourite_isCommandOf hkeys hfav
      · rw [decodeCommand, decodeChar_nocmd ⟨hfixed, hfav⟩]
        exact ⟨by simp [Instr.wf, hfixed, hfav], rfl⟩
    · exact decodeChar_fixed_isCommandOf hfixed keys

/-- Settles O10: a packet is its own encoding, and so is each of the three kinds of command input. -/
theorem encodeUndoesDecode : Obligations.EncodeUndoesDecode := fun keys hkeys => by
  refine ⟨fun p => ?_, decodeCommand_isCommandOf hkeys⟩
  have hrow := decodePacket_packetRow p
  exact ⟨(Instr.wf_packet hrow keys).2 rfl, by rw [encode_packet hrow, encodeRow_self rfl]⟩

/-- The round trip of each command of R88. -/
theorem command_roundtrip : ∀ {i : Instr}, i.packetRow = none → Laws.Roundtrip.Statement i
  | .hold, _ => Laws.Roundtrip.hold
  | .reveal, _ => Laws.Roundtrip.reveal
  | .quit, _ => Laws.Roundtrip.quit
  | .quitEsc, _ => Laws.Roundtrip.quitEsc
  | .digit0, _ => Laws.Roundtrip.digit0
  | .digit1, _ => Laws.Roundtrip.digit1
  | .digit2, _ => Laws.Roundtrip.digit2
  | .digit3, _ => Laws.Roundtrip.digit3
  | .digit4, _ => Laws.Roundtrip.digit4
  | .digit5, _ => Laws.Roundtrip.digit5
  | .digit6, _ => Laws.Roundtrip.digit6
  | .digit7, _ => Laws.Roundtrip.digit7
  | .digit8, _ => Laws.Roundtrip.digit8
  | .digit9, _ => Laws.Roundtrip.digit9
  | .fav0 b, _ => Laws.Roundtrip.fav0 b
  | .fav1 b, _ => Laws.Roundtrip.fav1 b
  | .fav2 b, _ => Laws.Roundtrip.fav2 b
  | .fav3 b, _ => Laws.Roundtrip.fav3 b
  | .nocmd c, _ => Laws.Roundtrip.nocmd c

/-- Settles O9: a well-formed packet instruction is its own encoding and is read back by its row; the
commands one by one. -/
theorem decodeUndoesEncode : Obligations.DecodeUndoesEncode := fun keys i hkeys hwf => by
  cases hrow : i.packetRow with
  | none => exact command_roundtrip hrow keys hkeys hwf
  | some pr =>
    rw [encode_packet hrow, roundtrip_row keys _ _ ((Instr.wf_packet hrow keys).1 hwf),
      instrOfRow_of_packetRow hrow]

theorem decodeCommand_digit : ∀ ic ∈ digitCommands, ∀ keys : FavKeys,
    decodeCommand keys (some ic.2) = ic.1 := by
  intro ic hic keys
  fin_cases hic <;> rfl

/-- Settles O14: the fixed characters by computation, the keys of the slots and the rest by the key table's
domain. -/
theorem commandTableIsRead : Obligations.CommandTableIsRead := fun keys hkeys =>
  ⟨rfl, rfl, rfl, rfl, rfl, fun _ _ h => decodeCommand_digit _ h keys,
    fun b => ⟨decodeChar_fav0 hkeys b, decodeChar_fav1 hkeys b, decodeChar_fav2 hkeys b,
      decodeChar_fav3 hkeys b⟩,
    fun _ hfixed hfav => decodeChar_nocmd ⟨hfixed, hfav⟩⟩

/-- Settles O13: the words of R86 to R88, read by the decoder. -/
theorem sampleWordsDecode : Obligations.SampleWordsDecode := by
  unfold Obligations.SampleWordsDecode
  decide

/-! ### The subcode and the reference encoder -/

/-- Settles O1: the data bits of a byte. -/
theorem decodeFieldReadsOddBits : Obligations.DecodeFieldReadsOddBits := decodeField_getLsbD

/-- Four fields laid side by side are their weighted sum. -/
theorem fields_or_eq_sum {a b c : Nat} (d : Nat) (ha : a < 16) (hb : b < 8) (hc : c < 16) :
    d <<< 11 ||| c <<< 7 ||| b <<< 4 ||| a = d * 2048 + c * 128 + b * 16 + a := by
  have hlow : b <<< 4 + a < 2 ^ 7 := by rw [Nat.shiftLeft_eq]; omega
  have hmid : c <<< 7 + (b <<< 4 + a) < 2 ^ 11 := by simp only [Nat.shiftLeft_eq] at hlow ⊢; omega
  rw [Nat.or_assoc, Nat.or_assoc, ← Nat.shiftLeft_add_eq_or_of_lt (i := 4) ha,
    ← Nat.shiftLeft_add_eq_or_of_lt hlow, ← Nat.shiftLeft_add_eq_or_of_lt hmid]
  simp only [Nat.shiftLeft_eq]
  omega

theorem shifted_field_toNat (n : Nibble) {k : Nat} (h : n.toNat <<< k < 2 ^ 13) :
    (n.setWidth 13 <<< k).toNat = n.toNat <<< k := by
  have hn : n.toNat < 2 ^ 13 := n.isLt.trans (by decide)
  rw [BitVec.toNat_shiftLeft, BitVec.toNat_setWidth, Nat.mod_eq_of_lt hn, Nat.mod_eq_of_lt h]

/-- Settles O6: the fields do not overlap, and the masks are remainders. -/
theorem subcodeIsFourMaskedFields : Obligations.SubcodeIsFourMaskedFields := fun p => by
  have hmask3 : ∀ n : Nibble, (n &&& 7#4).toNat = n.toNat % 8 := by decide
  have hmask2 : ∀ n : Nibble, (n &&& 3#4).toNat = n.toNat % 4 := by decide
  have h1 := (decodeField (byteAt p 4)).isLt
  have h2 : (decodeField (byteAt p 5) &&& 7#4).toNat < 8 := by rw [hmask3]; omega
  have h3 := (decodeField (byteAt p 6)).isLt
  have h4 : (decodeField (byteAt p 7) &&& 3#4).toNat < 4 := by rw [hmask2]; omega
  rw [decodeSubcode, BitVec.toNat_or, BitVec.toNat_or, BitVec.toNat_or,
    shifted_field_toNat _ (by rw [Nat.shiftLeft_eq]; omega),
    shifted_field_toNat _ (by rw [Nat.shiftLeft_eq]; omega),
    shifted_field_toNat _ (by rw [Nat.shiftLeft_eq]; omega), BitVec.toNat_setWidth_of_le (by decide),
    fields_or_eq_sum _ h1 h2 h3, hmask3, hmask2]

/-! ### The reference encoder -/

section
variable {E : Nibble → Byte} (hE : ∀ n, decodeField (E n) = n)
include hE

theorem refRow_address {m : Magazine} (hm : legalMagazine m = true) (r : Row) :
    magazineOf (refRow E m r) = m ∧ rowOf (refRow E m r) = r :=
  Prod.ext_iff.1 (decodeAddress_refMrag hE hm r)

theorem refHeader_address {m : Magazine} (hm : legalMagazine m = true) (page : Page) (sub : Subcode)
    (ctl : Bool) :
    magazineOf (refHeader E m page sub ctl) = m ∧ rowOf (refHeader E m page sub ctl) = 0#5 :=
  Prod.ext_iff.1 (decodeAddress_refMrag hE hm 0#5)

theorem refHeader_page (m : Magazine) (page : Page) (sub : Subcode) (ctl : Bool) :
    decodePageNumber (refHeader E m page sub ctl) = page := by
  have hnibbles : ∀ page : Page,
      ((page >>> 4).setWidth 4).toNat * 16 + (page.setWidth 4).toNat = page.toNat := by decide
  have htens : byteAt (refHeader E m page sub ctl) 3 = E ((page >>> 4).setWidth 4) := rfl
  have hunits : byteAt (refHeader E m page sub ctl) 2 = E (page.setWidth 4) := rfl
  apply BitVec.eq_of_toNat_eq
  rw [pageNumberIsTensAndUnits, htens, hunits, hE, hE, hnibbles]

theorem refHeader_subcode (m : Magazine) (page : Page) (sub : Subcode) (ctl : Bool) :
    decodeSubcode (refHeader E m page sub ctl) = sub := by
  have h4 : decodeField (byteAt (refHeader E m page sub ctl) 4) = sub.setWidth 4 := hE _
  have h5 : decodeField (byteAt (refHeader E m page sub ctl) 5) = ((sub >>> 4) &&& 7#13).setWidth 4 := hE _
  have h6 : decodeField (byteAt (refHeader E m page sub ctl) 6) = (sub >>> 7).setWidth 4 := hE _
  have h7 : decodeField (byteAt (refHeader E m page sub ctl) 7) = ((sub >>> 11) &&& 3#13).setWidth 4 := hE _
  have hmask3 : ∀ n : Nat, n &&& 7 = n % 8 := fun n => Nat.and_two_pow_sub_one_eq_mod n 3
  have hmask2 : ∀ n : Nat, n &&& 3 = n % 4 := fun n => Nat.and_two_pow_sub_one_eq_mod n 2
  have hlt := sub.isLt
  apply BitVec.eq_of_toNat_eq
  rw [subcodeIsFourMaskedFields, h4, h5, h6, h7]
  simp only [BitVec.toNat_setWidth, BitVec.toNat_and, BitVec.toNat_ushiftRight, BitVec.toNat_ofNat,
    Nat.shiftRight_eq_div_pow, Nat.reducePow, Nat.reduceMod, hmask3, hmask2]
  omega

theorem refHeader_control (m : Magazine) (page : Page) (sub : Subcode) (ctl : Bool) :
    decodeControlFlag (refHeader E m page sub ctl) = ctl := by
  have hbyte : byteAt (refHeader E m page sub ctl) 8 = E (if ctl then 1#4 else 0#4) := rfl
  rw [decodeControlFlag, hbyte, hE]
  cases ctl <;> rfl

end

/-- Settles O8: the two codings, then each field of the two kinds of line. -/
theorem referenceEncoderIsUndone : Obligations.ReferenceEncoderIsUndone := by
  refine ⟨fun n => ⟨decodeField_E0 n, decodeField_EH n⟩, fun E hE => ⟨fun m r hm => ?_,
    fun m page sub ctl hm => ?_⟩⟩
  · obtain ⟨hmag, hrow⟩ := refRow_address hE hm r
    exact ⟨hmag, by rw [decodePacket, hrow]⟩
  · obtain ⟨hmag, hrow⟩ := refHeader_address hE hm page sub ctl
    exact ⟨by rw [decodePacket, hrow]; rfl, hmag, refHeader_page hE m page sub ctl,
      refHeader_subcode hE m page sub ctl, refHeader_control hE m page sub ctl⟩

end Sys2Proof
end

section
/-! PROOFS. The invariant (R27, R34, R158), in two halves: the engine's registers, which packets move, and the
host's, which the control port moves. -/

namespace Sys2Proof.Machine

/-- The invariant of the registers that only the engine writes. -/
structure EngineInv (s : State) : Prop where
  marker : s.elideRow = 0#5 ∨ (2 ≤ s.elideRow.toNat ∧ s.elideRow.toNat ≤ 25)
  noHeaderRow : s.rowsSeen.getLsbD 0 = false
  twoStates : s.capturing = s.wasCapturing
  markerCapturing : s.elideRow ≠ 0#5 → s.capturing = true
  idleSeen : s.wasCapturing = false → s.rowsSeen = 0#32

/-- The invariant of the registers that only the control port writes, and of the parameters. -/
structure HostInv (s : State) : Prop where
  magazine : legalMagazine s.currentMag = true
  entryDigits : s.entryBuf.wf = true
  haltCause : s.halted = true ↔ s.haltCause ≠ .none
  params : s.params.wf = true

theorem inv_iff (s : State) : Inv s ↔ HostInv s ∧ EngineInv s ∧ s.buffer = [] := by
  constructor
  · intro h
    exact ⟨⟨h.magazine, h.entryDigits, h.haltCause, h.params⟩,
      ⟨h.marker, h.noHeaderRow, h.twoStates, h.markerCapturing, h.idleSeen⟩, h.bufferReleased⟩
  · rintro ⟨hh, he, hb⟩
    exact ⟨hh.magazine, he.marker, he.noHeaderRow, hh.entryDigits, he.twoStates, he.markerCapturing,
      he.idleSeen, hh.haltCause, hb, hh.params⟩

/-! ### The control port's half -/

theorem EntryBuf.push_wf {b : EntryBuf} (hb : b.wf = true) {c : Byte} (hc : isDigit c = true) :
    EntryBuf.wf ⟨b.c1, b.c2, c⟩ = true := by
  simp only [EntryBuf.wf, Bool.and_eq_true] at hb ⊢
  exact ⟨⟨hb.1.2, hb.2⟩, hc⟩

theorem HostMove.hostInv {s t : State} (h : HostMove s t) (hs : HostInv s) : HostInv t := by
  induction h with
  | refl => exact hs
  | trans _ _ ih ih' => exact ih' (ih hs)
  | emitAll | hold | reveal => exact { hs with }
  | halt hcause => exact { hs with haltCause := iff_of_true rfl hcause }
  | tune hm => exact { hs with magazine := hm }
  | push hc => exact { hs with entryDigits := EntryBuf.push_wf hs.entryDigits hc }

theorem HostMove.engineInv {s t : State} (h : HostMove s t) (hs : EngineInv s) : EngineInv t := by
  rw [h.eq_withHostSide]
  exact { hs with }

theorem HostMove.buffer {s t : State} (h : HostMove s t) : t.buffer = s.buffer := by
  rw [h.eq_withHostSide]; rfl

theorem HostMove.inv {s t : State} (h : HostMove s t) (hs : Inv s) : Inv t := by
  obtain ⟨hh, he, hbuffer⟩ := (inv_iff s).1 hs
  exact (inv_iff t).2 ⟨h.hostInv hh, h.engineInv he, h.buffer.trans hbuffer⟩

/-! ### The engine's half -/

theorem EngineFrame.hostInv {s t : State} (h : EngineFrame s t) (hs : HostInv s) : HostInv t where
  magazine := h.currentMag ▸ hs.magazine
  entryDigits := h.entryBuf ▸ hs.entryDigits
  haltCause := by rw [h.halted, h.haltCause]; exact hs.haltCause
  params := h.params ▸ hs.params

theorem headerStep_engineInv (p : Packet) {s : State} (hs : EngineInv s) : EngineInv (headerStep p s) := by
  cases hhold : s.holdMode
  · rw [headerStep_live hhold]
    by_cases hpage : decodePageNumber p = s.currentPage
    · rw [headerLive_matched (s := setMarker 0 s) hpage]
      exact
        { marker := .inl rfl
          noHeaderRow := by
            show (if decodeSubcode p = s.lastSubcode then s.rowsSeen else 0#32).getLsbD 0 = false
            split
            · exact hs.noHeaderRow
            · rfl
          twoStates := rfl
          markerCapturing := fun _ => rfl
          idleSeen := nofun }
    · rw [headerLive_missed (s := setMarker 0 s) hpage]
      have hempty : (if s.wasCapturing then 0#32 else s.rowsSeen) = 0#32 := by
        cases hwas : s.wasCapturing
        · exact hs.idleSeen hwas
        · rfl
      exact
        { marker := .inl rfl
          noHeaderRow := (congrArg (BitVec.getLsbD · 0) hempty).trans rfl
          twoStates := rfl
          markerCapturing := fun h => absurd rfl h
          idleSeen := fun _ => hempty }
  · rw [headerStep_held hhold]
    exact { hs with marker := .inl rfl, markerCapturing := fun h => absurd rfl h }

/-- R153: the marker stays or becomes the row after the painted one. -/
theorem captureRow_elideRow (p : Packet) (r : Row) (s : State) :
    (captureRow p r s).elideRow = s.elideRow ∨
      (r.toNat ≤ 24 ∧ (captureRow p r s).elideRow = r + 1#5) := by
  rcases row_class r with htext | hmeta | rfl | hign
  · rw [captureRow_text htext, paintText_eq]
    dsimp only
    split
    · exact .inr ⟨htext, rfl⟩
    · exact .inl rfl
  · rw [captureRow_meta hmeta]; exact .inl rfl
  · rw [captureRow_link]; exact .inl rfl
  · rw [captureRow_ignored hign]; exact .inl rfl

theorem captureRow_engineInv (p : Packet) {r : Row} (hr : r ≠ 0#5) {s : State} (hcap : s.capturing = true)
    (hs : EngineInv s) : EngineInv (captureRow p r s) := by
  have hsame := captureRow_eq_withRowSide p r s
  have hcap' : (captureRow p r s).capturing = true := by rw [hsame]; exact hcap
  have hwas' : (captureRow p r s).wasCapturing = true := by rw [hsame]; exact hs.twoStates ▸ hcap
  exact
    { marker := by
        rcases captureRow_elideRow p r s with h | ⟨htext, h⟩
        · rw [h]; exact hs.marker
        · rw [h]; bv_omega
      noHeaderRow := by
        rw [captureRow_rowsSeen]
        exact (getLsbD_or_row s.rowsSeen r 0#5).trans <| by
          rw [decide_eq_false hr.symm, Bool.false_or]; exact hs.noHeaderRow
      twoStates := hcap'.trans hwas'.symm
      markerCapturing := fun _ => hcap'
      idleSeen := fun h => by simp [hwas'] at h }

theorem rowStep_engineInv (p : Packet) {r : Row} (hr : r ≠ 0#5) {s : State} (hs : EngineInv s) :
    EngineInv (rowStep p r s) := by
  by_cases hmark : s.elideRow = r
  · rw [rowStep_marked hmark]
    exact { hs with marker := .inl rfl, markerCapturing := fun h => absurd rfl h }
  · cases hcap : s.capturing
    · rw [rowStep_idle hmark hcap]; exact hs
    · rw [rowStep_capture hmark hcap]; exact captureRow_engineInv p hr hcap hs

/-! ### Instructions and turns -/

/-- `t` with what is not the instructions' to write (R170, R209) taken from `s`. -/
def withSurroundings (s t : State) : State :=
  { t with
    favoriteSlots := s.favoriteSlots, buffer := s.buffer, pkt := s.pkt, keys := s.keys
    messages := s.messages, phase := s.phase, turns := s.turns, params := s.params }

/-- No instruction writes the favourites, the buffer, the queues, the loop's place, the turns or the
parameters. -/
theorem exec_eq_withSurroundings {i : Instr} {s t : State} (h : exec i s = .next t) :
    t = withSurroundings s t := by
  cases hrow : i.packetRow with
  | none => rw [(exec_command_hostMove hrow h).eq_withHostSide]; rfl
  | some pr =>
    rcases exec_packet_next hrow h with rfl | ⟨-, rfl⟩ | ⟨-, rfl⟩
    · rfl
    · rw [headerStep_eq_withHeaderSide]; rfl
    · rw [rowStep_eq_withRowSide]; rfl

theorem exec_buffer {i : Instr} {s t : State} (h : exec i s = .next t) : t.buffer = s.buffer := by
  rw [exec_eq_withSurroundings h]; rfl

/-- Every instruction keeps both halves of the invariant. -/
theorem exec_keeps_halves {i : Instr} {s t : State} (h : exec i s = .next t) (hh : HostInv s)
    (he : EngineInv s) : HostInv t ∧ EngineInv t := by
  cases hrow : i.packetRow with
  | none =>
    have hmove := exec_command_hostMove hrow h
    exact ⟨hmove.hostInv hh, hmove.engineInv he⟩
  | some pr =>
    refine ⟨(exec_packet_frame hrow h).hostInv hh, ?_⟩
    rcases exec_packet_next hrow h with rfl | ⟨-, rfl⟩ | ⟨hr, rfl⟩
    · exact he
    · exact headerStep_engineInv _ he
    · exact rowStep_engineInv _ hr he

theorem exec_inv {i : Instr} {s t : State} (h : exec i s = .next t) (hs : Inv s) : Inv t := by
  obtain ⟨hh, he, hbuffer⟩ := (inv_iff s).1 hs
  obtain ⟨hh', he'⟩ := exec_keeps_halves h hh he
  exact (inv_iff t).2 ⟨hh', he', (exec_buffer h).trans hbuffer⟩

/-- A packet turn: the delivery's packet runs, or the turn is fatal; the buffer is released after it. -/
theorem servePacket_next {s t : State} (h : servePacket s = .next t) :
    ∃ u, t = releaseBuffer u ∧
      ((∃ i, exec i (fillBuffer (nextDelivery s) (dropDelivery s)) = .next u) ∨
        HostMove (fillBuffer (nextDelivery s) (dropDelivery s)) u) := by
  cases hd : decode s.params.favKeys (.packet (nextDelivery s).bytes) with
  | ok i =>
    rw [servePacket_ok hd] at h
    obtain ⟨u, hu, rfl⟩ := mapNext_eq_next.1 h
    exact ⟨u, rfl, .inl ⟨i, hu⟩⟩
  | error e =>
    cases (servePacket_error hd).symm.trans h
    exact ⟨_, rfl, .inr (.fatal _)⟩

theorem acknowledge_hostMove (s : State) : HostMove s (acknowledge s) := .emitAll _ s

/-- A poll of the control channel: nothing, or a command, then at most an acknowledgement. -/
theorem serveMessage_next {s t : State} (h : serveMessage s = .next t) :
    t = { s with messages := s.messages.tail } ∨
      ∃ i u, exec i { s with messages := s.messages.tail } = .next u ∧ t = acknowledge u := by
  unfold serveMessage at h
  split at h
  · cases h; exact .inl rfl
  · obtain ⟨u, hu, rfl⟩ := mapNext_eq_next.1 h
    exact .inr ⟨_, u, hu, rfl⟩
  · obtain ⟨u, hu, rfl⟩ := mapNext_eq_next.1 h
    exact .inr ⟨_, u, hu, rfl⟩
  · cases h

/-- R232: the initial magazine 0 is read as 1. -/
theorem resetMagazine_legal {m : Nat} (hm : m ≤ 8) :
    legalMagazine (if m = 0 then 1 else BitVec.ofNat 4 m) = true := by
  rw [legalMagazine_iff]
  split
  · decide
  · rw [BitVec.toNat_ofNat]; omega

theorem resetBlock_inv {m p : Nat} {s t : State} (hparams : s.params.wf = true)
    (h : resetBlock m p s = .next t) : Inv t := by
  unfold resetBlock at h
  split at h
  case isFalse => cases h
  case isTrue hdomain =>
    cases h
    have hdigits := (Bool.and_eq_true_iff.1 hparams).1
    exact
      { magazine := resetMagazine_legal hdomain.1
        marker := .inl rfl
        noHeaderRow := BitVec.getLsbD_zero
        entryDigits := hdigits
        twoStates := rfl
        markerCapturing := fun h => absurd rfl h
        idleSeen := fun _ => rfl
        haltCause := by simp
        bufferReleased := rfl
        params := hparams }

/-- Settles O56: `State.reset` is what a reset with the parameters (0, 0) makes of itself. -/
theorem resetMeetsTheInvariant : Obligations.ResetMeetsTheInvariant := by
  have hreset : resetBlock 0 0 State.reset = .next State.reset := rfl
  exact ⟨resetBlock_inv (by decide) hreset, fun _ _ _ _ => resetBlock_inv⟩

/-- The turns one by one; the packet's instruction runs while the buffer is filled, so only the two halves
of the invariant hold there. -/
theorem serve_inv {τ : Turn} {s t : State} (h : serve τ s = .next t) (hs : Inv s) : Inv t := by
  cases τ with
  | packet =>
    obtain ⟨hh, he, -⟩ := (inv_iff s).1 hs
    obtain ⟨u, rfl, ⟨i, hu⟩ | hu⟩ := servePacket_next (whenRunning_eq_next.1 h).2
    · obtain ⟨hh', he'⟩ := exec_keeps_halves hu { hh with } { he with }
      exact (inv_iff _).2 ⟨{ hh' with }, { he' with }, rfl⟩
    · exact (inv_iff _).2 ⟨{ hu.hostInv { hh with } with }, { hu.engineInv { he with } with }, rfl⟩
  | key => exact exec_inv (whenRunning_eq_next.1 h).2 { hs with }
  | message =>
    obtain rfl | ⟨i, u, hu, rfl⟩ := serveMessage_next (whenRunning_eq_next.1 h).2
    · exact { hs with }
    · exact (acknowledge_hostMove u).inv (exec_inv hu { hs with })
  | primitive p => exact (execPrimitive_hostMove h).inv hs
  | interrupt => exact (execPrimitive_hostMove (p := .haltInt) h).inv hs
  | favourites f =>
    cases (whenRunning_eq_next.1 h).2
    exact { hs with }
  | reset m p => exact resetBlock_inv hs.params h

theorem beginStep_inv {s : State} (hs : Inv s) : Inv (beginStep s) := by
  unfold beginStep
  split <;> exact { hs with }

/-- Settles O57: the turn is taken, then served. -/
theorem stepKeepsTheInvariant : Obligations.StepKeepsTheInvariant := fun _ _ hs h =>
  serve_inv h (beginStep_inv hs)

end Sys2Proof.Machine
end

section
/-! PROOFS. What nothing reads: `rowCounter`, `lastHeaderPacket` (R22), `revealMode` (R28), and the loop's
place, which the schedule alone reads (R185). -/

namespace Sys2Proof.Machine

/-! ### Each instruction carries the unread registers along -/

/-- `s` with other values in the registers that no instruction reads. -/
def withUnread (count : Nat) (header : Packet) (reveal : Bool) (place : LoopPhase) (s : State) : State :=
  { s with rowCounter := count, lastHeaderPacket := header, revealMode := reveal, phase := place }

/-- The meaning never reads the unread registers: with other values in them it does the same, each of them
changes by a function of its own old value, and the loop's place stays. -/
def CarriesUnread (f : State → Result) : Prop :=
  ∀ s, ∃ (count : Nat → Nat) (header : Packet → Packet) (reveal : Bool → Bool), ∀ n p v place,
    f (withUnread n p v place s) = mapNext (withUnread (count n) (header p) (reveal v) place) (f s)

/-- The same of a transition that always answers. -/
def TransitionCarriesUnread (f : State → State) : Prop :=
  ∀ s, ∃ (count : Nat → Nat) (header : Packet → Packet) (reveal : Bool → Bool), ∀ n p v place,
    f (withUnread n p v place s) = withUnread (count n) (header p) (reveal v) place (f s)

theorem CarriesUnread.whenRunning {f : State → Result} (hf : CarriesUnread f) :
    CarriesUnread fun s => whenRunning s (f s) := fun s => by
  obtain ⟨count, header, reveal, heq⟩ := hf s
  refine ⟨count, header, reveal, fun n p v place => ?_⟩
  beta_reduce
  cases h : s.halted
  · rw [whenRunning_running h, whenRunning_running (s := withUnread n p v place s) h, heq]
  · rw [whenRunning_halted h, whenRunning_halted (s := withUnread n p v place s) h]; rfl

theorem TransitionCarriesUnread.packetStep {f : State → State} (hf : TransitionCarriesUnread f)
    (p : Packet) : CarriesUnread (packetStep p f) := .whenRunning fun s => by
  by_cases h : magazineOf p = s.currentMag
  · obtain ⟨count, header, reveal, heq⟩ := hf s
    refine ⟨count, header, reveal, fun n q v place => ?_⟩
    rw [if_pos h, if_pos (show magazineOf p = (withUnread n q v place s).currentMag from h), heq,
      mapNext_next]
  · refine ⟨id, id, id, fun n q v place => ?_⟩
    rw [if_neg h, if_neg (show magazineOf p ≠ (withUnread n q v place s).currentMag from h)]
    rfl

theorem headerStep_carriesUnread (p : Packet) : TransitionCarriesUnread (headerStep p) := fun s => by
  cases hhold : s.holdMode
  · by_cases hpage : decodePageNumber p = s.currentPage
    · refine ⟨fun _ => 0, fun _ => p, id, fun n q v place => ?_⟩
      rw [headerStep_live hhold, headerStep_live (s := withUnread n q v place s) hhold,
        headerLive_matched (s := setMarker 0 s) hpage,
        headerLive_matched (s := setMarker 0 (withUnread n q v place s)) hpage]
      rfl
    · refine ⟨id, id, id, fun n q v place => ?_⟩
      rw [headerStep_live hhold, headerStep_live (s := withUnread n q v place s) hhold,
        headerLive_missed (s := setMarker 0 s) hpage,
        headerLive_missed (s := setMarker 0 (withUnread n q v place s)) hpage]
      rfl
  · refine ⟨id, id, id, fun n q v place => ?_⟩
    rw [headerStep_held hhold, headerStep_held (s := withUnread n q v place s) hhold]
    rfl

theorem captureRow_carriesUnread (p : Packet) (r : Row) : TransitionCarriesUnread (captureRow p r) :=
  fun s => by
  rcases row_class r with htext | hmeta | rfl | hign
  · refine ⟨(· + 1), id, id, fun n q v place => ?_⟩
    rw [captureRow_text htext, captureRow_text htext, paintText_eq, paintText_eq]
    rfl
  · exact ⟨id, id, id, fun _ _ _ _ => by rw [captureRow_meta hmeta, captureRow_meta hmeta]; rfl⟩
  · exact ⟨id, id, id, fun _ _ _ _ => by rw [captureRow_link, captureRow_link]; rfl⟩
  · exact ⟨id, id, id, fun _ _ _ _ => by rw [captureRow_ignored hign, captureRow_ignored hign]; rfl⟩

theorem rowStep_carriesUnread (p : Packet) (r : Row) : TransitionCarriesUnread (rowStep p r) :=
  fun s => by
  by_cases hmark : s.elideRow = r
  · refine ⟨id, id, id, fun n q v place => ?_⟩
    rw [rowStep_marked hmark, rowStep_marked (s := withUnread n q v place s) hmark]; rfl
  · cases hcap : s.capturing
    · refine ⟨id, id, id, fun n q v place => ?_⟩
      rw [rowStep_idle hmark hcap, rowStep_idle (s := withUnread n q v place s) hmark hcap]; rfl
    · obtain ⟨count, header, reveal, heq⟩ := captureRow_carriesUnread p r s
      refine ⟨count, header, reveal, fun n q v place => ?_⟩
      rw [rowStep_capture hmark hcap, rowStep_capture (s := withUnread n q v place s) hmark hcap, heq]

theorem setTune_carriesUnread (m : Magazine) (pg : Page) : CarriesUnread (setTune m pg) :=
  fun s => ⟨id, id, id, fun n q v place => by
    rcases setTune_cases m pg s with ⟨hm, heq⟩ | ⟨hm, heq⟩ <;> rw [heq, setTune, hm] <;> rfl⟩

/-- `g` neither reads nor writes the unread registers. -/
def IgnoresUnread (g : State → State) : Prop :=
  ∀ n p v place s, g (withUnread n p v place s) = withUnread n p v place (g s)

theorem IgnoresUnread.mapNext_comm {g : State → State} (hg : IgnoresUnread g) (n : Nat) (p : Packet)
    (v : Bool) (place : LoopPhase) (r : Result) :
    mapNext g (mapNext (withUnread n p v place) r) = mapNext (withUnread n p v place) (mapNext g r) := by
  cases r with
  | next s => exact congrArg Host.Outcome.next (hg n p v place s)
  | fault | refused => rfl

theorem CarriesUnread.mapNext {f : State → Result} (hf : CarriesUnread f) {g : State → State}
    (hg : IgnoresUnread g) : CarriesUnread fun s => mapNext g (f s) := fun s => by
  obtain ⟨count, header, reveal, heq⟩ := hf s
  exact ⟨count, header, reveal, fun n p v place => by beta_reduce; rw [heq, hg.mapNext_comm]⟩

theorem digitStep_carriesUnread (c : Byte) : CarriesUnread (digitStep c) :=
  fun s => ⟨id, id, id, fun n p v place => by
    rw [digitStep_eq, digitStep_eq, mapNext_next, apply_ite (withUnread (id n) (id p) (id v) place)]
    rfl⟩

theorem favouriteStep_carriesUnread (slot : Fin 4) : CarriesUnread (favouriteStep slot) := fun s =>
  (setTune_carriesUnread (favourite s.favoriteSlots slot).mag (favourite s.favoriteSlots slot).page).mapNext
    (g := emit .rendererClear) (fun _ _ _ _ _ => rfl) s

theorem CommandMeaning.carriesUnread {f : State → Result} (hf : CommandMeaning f) : CarriesUnread f := by
  cases hf with
  | nothing => exact fun _ => ⟨id, id, id, fun _ _ _ _ => rfl⟩
  | hold => exact fun _ => ⟨id, id, id, fun _ _ _ _ => rfl⟩
  | reveal => exact fun _ => ⟨id, id, not, fun _ _ _ _ => rfl⟩
  | quit => exact fun _ => ⟨id, id, id, fun _ _ _ _ => rfl⟩
  | @digit c _ => exact digitStep_carriesUnread c
  | favourite slot => exact favouriteStep_carriesUnread slot

theorem exec_carriesUnread (i : Instr) : CarriesUnread (exec i) := by
  cases hrow : i.packetRow with
  | none =>
    obtain ⟨f, hf, heq⟩ := exec_command hrow
    rw [funext heq]
    exact hf.carriesUnread.whenRunning
  | some pr =>
    rw [funext (exec_packet hrow)]
    split
    · exact (headerStep_carriesUnread _).packetStep _
    · exact (rowStep_carriesUnread _ _).packetStep _

theorem execPrimitive_carriesUnread (p : Primitive) : CarriesUnread (execPrimitive p) := by
  refine .whenRunning fun s => ?_
  cases p with
  | setTune m pg => exact setTune_carriesUnread m pg s
  | toggleHold => exact ⟨id, id, id, fun _ _ _ _ => rfl⟩
  | toggleReveal => exact ⟨id, id, not, fun _ _ _ _ => rfl⟩
  | haltQuit | haltInt => exact ⟨id, id, id, fun _ _ _ _ => rfl⟩

/-! ### So does each turn but a reset -/

theorem servePacket_carriesUnread : CarriesUnread servePacket := fun s => by
  cases hd : decode s.params.favKeys (.packet (nextDelivery s).bytes) with
  | ok i =>
    obtain ⟨count, header, reveal, heq⟩ := (exec_carriesUnread i).mapNext (g := releaseBuffer)
      (fun _ _ _ _ _ => rfl) (fillBuffer (nextDelivery s) (dropDelivery s))
    refine ⟨count, header, reveal, fun n p v place => ?_⟩
    rw [servePacket_ok hd, servePacket_ok (s := withUnread n p v place s) hd]
    exact heq n p v place
  | error e =>
    refine ⟨id, id, id, fun n p v place => ?_⟩
    rw [servePacket_error hd, servePacket_error (s := withUnread n p v place s) hd]
    rfl

theorem serveKey_carriesUnread : CarriesUnread serveKey := fun s =>
  exec_carriesUnread (decodeCommand s.params.favKeys s.keys.head?.join) { s with keys := s.keys.tail }

/-- A message of at most one character, by the instruction it decodes to. -/
theorem acknowledged_carriesUnread (i : Instr) : CarriesUnread fun s => mapNext acknowledge (exec i s) :=
  (exec_carriesUnread i).mapNext fun _ _ _ _ _ => rfl

theorem serveMessage_carriesUnread : CarriesUnread serveMessage := fun s => by
  unfold serveMessage
  dsimp only [withUnread]
  rcases s.messages.head?.join with _ | _ | ⟨c, _ | ⟨d, m⟩⟩
  · exact ⟨id, id, id, fun _ _ _ _ => rfl⟩
  · exact acknowledged_carriesUnread (decodeCommand s.params.favKeys none)
      { s with messages := s.messages.tail }
  · exact acknowledged_carriesUnread (decodeCommand s.params.favKeys (some c))
      { s with messages := s.messages.tail }
  · exact ⟨id, id, id, fun _ _ _ _ => rfl⟩

theorem serve_carriesUnread {τ : Turn} (h : ∀ m p, τ ≠ .reset m p) : CarriesUnread (serve τ) := by
  cases τ with
  | packet => exact servePacket_carriesUnread.whenRunning
  | key => exact serveKey_carriesUnread.whenRunning
  | message => exact serveMessage_carriesUnread.whenRunning
  | primitive p => exact execPrimitive_carriesUnread p
  | interrupt => exact execPrimitive_carriesUnread .haltInt
  | favourites f => exact .whenRunning fun _ => ⟨id, id, id, fun _ _ _ _ => rfl⟩
  | reset m p => exact absurd rfl (h m p)

/-! ### The turns and the loop's place are the schedule's alone -/

theorem exec_schedule {i : Instr} {s t : State} (h : exec i s = .next t) :
    t.turns = s.turns ∧ t.phase = s.phase := by
  rw [exec_eq_withSurroundings h]
  exact ⟨rfl, rfl⟩

theorem HostMove.schedule {s t : State} (h : HostMove s t) : t.turns = s.turns ∧ t.phase = s.phase :=
  ⟨h.commandFrame.turns, h.commandFrame.phase⟩

/-- No turn but a reset writes what `beginStep` left of the schedule (R184, R185). -/
theorem serve_schedule {τ : Turn} (hτ : ∀ m p, τ ≠ .reset m p) {s t : State} (h : serve τ s = .next t) :
    t.turns = s.turns ∧ t.phase = s.phase := by
  cases τ with
  | packet =>
    obtain ⟨u, rfl, ⟨i, hu⟩ | hu⟩ := servePacket_next (whenRunning_eq_next.1 h).2
    · have hsame := exec_schedule hu; exact hsame
    · have hsame := hu.schedule; exact hsame
  | key => have hsame := exec_schedule (whenRunning_eq_next.1 h).2; exact hsame
  | message =>
    obtain rfl | ⟨i, u, hu, rfl⟩ := serveMessage_next (whenRunning_eq_next.1 h).2
    · exact ⟨rfl, rfl⟩
    · have hsame := exec_schedule hu; exact hsame
  | primitive p => exact (execPrimitive_hostMove h).schedule
  | interrupt => exact (execPrimitive_hostMove (p := .haltInt) h).schedule
  | favourites f =>
    cases (whenRunning_eq_next.1 h).2
    exact ⟨rfl, rfl⟩
  | reset m p => exact absurd rfl (hτ m p)

/-! ### Related results -/

theorem ResultsRelated.refl {R : State → State → Prop} (hR : ∀ s, R s s) (r : Result) :
    ResultsRelated R r r := by
  cases r with
  | next s => exact hR s
  | fault | refused => rfl

theorem ResultsRelated.mapNext {R : State → State → Prop} {f : State → State} {r : Result}
    (h : ∀ s, r = .next s → R s (f s)) : ResultsRelated R r (mapNext f r) := by
  cases r with
  | next s => exact h s rfl
  | fault | refused => rfl

/-! ### The unread registers are unobservable -/

theorem SameButUnread.refl (s : State) : SameButUnread s s := rfl

theorem withUnread_same (n : Nat) (p : Packet) (v : Bool) (s : State) :
    SameButUnread s (withUnread n p v s.phase s) := rfl

theorem SameButUnread.eq_withUnread {s t : State} (h : SameButUnread s t) :
    t = withUnread t.rowCounter t.lastHeaderPacket t.revealMode s.phase s :=
  calc t = withUnread t.rowCounter t.lastHeaderPacket t.revealMode t.phase
        { t with
          rowCounter := s.rowCounter, lastHeaderPacket := s.lastHeaderPacket
          revealMode := s.revealMode } := rfl
    _ = withUnread t.rowCounter t.lastHeaderPacket t.revealMode s.phase s := by
      rw [h, ← congrArg State.phase h]

theorem beginStep_withUnread (n : Nat) (p : Packet) (v : Bool) (s : State) :
    beginStep (withUnread n p v s.phase s) = withUnread n p v (beginStep s).phase (beginStep s) := by
  unfold beginStep
  dsimp only [withUnread]
  split <;> rfl

/-- A turn, from two states that differ at most in the unread registers; a reset writes all of them. -/
theorem serve_withUnread (τ : Turn) (n : Nat) (p : Packet) (v : Bool) (s : State) :
    ResultsRelated SameButUnread (serve τ s) (serve τ (withUnread n p v s.phase s)) := by
  by_cases hτ : ∃ m pg, τ = .reset m pg
  · obtain ⟨m, pg, rfl⟩ := hτ
    exact .refl SameButUnread.refl (resetBlock m pg s)
  · have hτ : ∀ m pg, τ ≠ .reset m pg := fun m pg h => hτ ⟨m, pg, h⟩
    obtain ⟨count, header, reveal, heq⟩ := serve_carriesUnread hτ s
    rw [heq]
    refine .mapNext fun t ht => ?_
    rw [← (serve_schedule hτ ht).2]
    exact withUnread_same ..

/-- Settles O58: the turn is the same, and serving it carries the unread registers along. -/
theorem unreadRegistersAreUnobservable : Obligations.UnreadRegistersAreUnobservable := fun s t h => by
  rw [h.eq_withUnread]
  show ResultsRelated SameButUnread (serve (nextTurn s) (beginStep s)) (serve (nextTurn s) (beginStep _))
  rw [beginStep_withUnread]
  exact serve_withUnread ..

/-! ### The loop's place is unobservable until the next turn -/

/-- `s` at another place of the loop. -/
def atPlace (place : LoopPhase) (s : State) : State := { s with phase := place }

theorem serve_atPlace {τ : Turn} (hτ : ∀ m p, τ ≠ .reset m p) (place : LoopPhase) (s : State) :
    serve τ (atPlace place s) = mapNext (atPlace place) (serve τ s) := by
  obtain ⟨count, header, reveal, heq⟩ := serve_carriesUnread hτ s
  have hown := heq s.rowCounter s.lastHeaderPacket s.revealMode s.phase
  have hmoved := heq s.rowCounter s.lastHeaderPacket s.revealMode place
  change serve τ s = _ at hown
  change serve τ (atPlace place s) = _ at hmoved
  rw [hmoved]
  cases hr : serve τ s with
  | next t =>
    rw [hr, mapNext_next, Host.Outcome.next.injEq] at hown
    rw [mapNext_next, mapNext_next, hown]
    rfl
  | fault | refused => rfl

theorem phaseTurn_ne_reset (place : LoopPhase) (m p : Nat) : phaseTurn place ≠ .reset m p := by
  cases place <;> nofun

/-- Settles O24: the same port is served from two states that differ in the loop's place only. -/
theorem loopStepIsARelaxedStep : Obligations.LoopStepIsARelaxedStep := fun s hturns => by
  have hbegin : beginStep { s with turns := [phaseTurn s.phase] } = atPlace s.phase (beginStep s) := by
    simp [beginStep, hturns, atPlace]
  have hturn : nextTurn s = phaseTurn s.phase := by rw [nextTurn, hturns]
  show ResultsRelated _ (serve (nextTurn s) (beginStep s)) (serve (phaseTurn s.phase) (beginStep _))
  rw [hturn, hbegin, serve_atPlace (phaseTurn_ne_reset s.phase)]
  exact .mapNext fun t _ => rfl

/-! ### The cycle of the loop (R184) -/

/-- The number of a place in the cycle of 18. -/
def placeIndex : LoopPhase → Nat
  | .packet k => k
  | .key => 16
  | .message => 17

theorem placeIndex_nextPhase (place : LoopPhase) :
    placeIndex (nextPhase place) = (placeIndex place + 1) % 18 := by
  cases place with
  | packet k =>
    simp only [nextPhase, Config.batch]
    split <;> simp only [placeIndex] <;> omega
  | key | message => rfl

theorem placeIndex_iterate (n : Nat) : placeIndex (nextPhase^[n] (.packet 0)) = n % 18 := by
  induction n with
  | zero => rfl
  | succ n ih => rw [Function.iterate_succ_apply', placeIndex_nextPhase, ih]; omega

theorem phaseTurn_eq (place : LoopPhase) : phaseTurn place =
    if placeIndex place < 16 then .packet else if placeIndex place = 16 then .key else .message := by
  cases place with
  | packet k => exact (if_pos k.isLt).symm
  | key | message => rfl

/-- Settles O23: the places are counted modulo 18, and a step takes its turn before it serves it. -/
theorem loopServesSixteenPacketsKeyMessage : Obligations.LoopServesSixteenPacketsKeyMessage := by
  refine ⟨fun n => by rw [phaseTurn_eq, placeIndex_iterate], fun s t hturns hstep => ?_⟩
  have hturn : nextTurn s = phaseTurn s.phase := by rw [nextTurn, hturns]
  rw [step, hturn] at hstep
  obtain ⟨ht, hphase⟩ := serve_schedule (phaseTurn_ne_reset s.phase) hstep
  exact ⟨hturn, by rw [ht, beginStep_turns, hturns, List.tail_nil],
    by rw [hphase, beginStep_phase, if_pos hturns]⟩

end Sys2Proof.Machine
end

section
/-! PROOFS. What a packet is not read for: its check bits, its masked bits and its payload (R61, R101, R110,
R111) reach no register but `lastHeaderPacket` and no action but inside the forwarded packet. -/

namespace Sys2Proof.Machine

/-! ### The fields of two packets whose read bits agree -/

section
variable {p q : Packet} (h : SameReadBits p q)
include h

theorem SameReadBits.address :
    decodeAddress (byteAt p 0) (byteAt p 1) = decodeAddress (byteAt q 0) (byteAt q 1) :=
  (decodeAddress_eq_iff ..).2 ⟨h.mrag0, h.mrag1⟩

theorem SameReadBits.magazine : magazineOf p = magazineOf q := congrArg Prod.fst h.address

theorem SameReadBits.row : rowOf p = rowOf q := congrArg Prod.snd h.address

theorem SameReadBits.page : decodePageNumber p = decodePageNumber q := by
  rw [decodePageNumber, h.pageTens, h.pageUnits, decodePageNumber]

theorem SameReadBits.subcode : decodeSubcode p = decodeSubcode q := by
  rw [decodeSubcode, h.f1, h.f2, h.f3, h.f4, decodeSubcode]

theorem SameReadBits.control : decodeControlFlag p = decodeControlFlag q := by
  have hlow : ∀ n : Nibble, n.getLsbD 0 = (n &&& 1#4).getLsbD 0 := by decide
  rw [decodeControlFlag, hlow, h.ctl, ← hlow, decodeControlFlag]

end

/-! ### The transitions -/

/-- `s` with other values where packets are remembered, forwarded or held. -/
def withPackets (header : Packet) (acts : List Action) (buf : Memory) (s : State) : State :=
  { s with lastHeaderPacket := header, actions := acts, buffer := buf }

theorem SameButPackets.eq_withPackets {s t : State} (h : SameButPackets s t) :
    t = withPackets t.lastHeaderPacket t.actions t.buffer s :=
  calc t = withPackets t.lastHeaderPacket t.actions t.buffer
        { t with lastHeaderPacket := s.lastHeaderPacket, actions := s.actions, buffer := s.buffer } := rfl
    _ = withPackets t.lastHeaderPacket t.actions t.buffer s := by rw [h.1]

/-- Two action lists that differ at most in the packets they forward. -/
def SameActions (as bs : List Action) : Prop := bs.map withoutPacket = as.map withoutPacket

theorem SameActions.append {as bs cs ds : List Action} (h : SameActions as bs) (h' : SameActions cs ds) :
    SameActions (as ++ cs) (bs ++ ds) := by
  rw [SameActions, List.map_append, List.map_append, h, h']

theorem beforePaint_withPackets {p q : Packet} (h : SameReadBits p q) (l : Packet) (acts : List Action)
    (buf : Memory) (s : State) : beforePaint q (withPackets l acts buf s) = beforePaint p s := by
  rw [beforePaint, ← h.page, ← h.subcode]
  rfl

theorem headerStep_samePackets {p q : Packet} (h : SameReadBits p q) (l : Packet) {acts : List Action}
    (buf : Memory) {s : State} (hacts : SameActions s.actions acts) :
    SameButPackets (headerStep p s) (headerStep q (withPackets l acts buf s)) := by
  cases hhold : s.holdMode
  · rw [headerStep_live hhold, headerStep_live (s := withPackets l acts buf s) hhold]
    by_cases hpage : decodePageNumber p = s.currentPage
    · rw [headerLive_matched (s := setMarker 0 s) hpage,
        headerLive_matched (s := setMarker 0 (withPackets l acts buf s)) (h.page.symm.trans hpage),
        beforePaint_setMarker, beforePaint_setMarker, beforePaint_withPackets h, ← h.subcode, ← h.control]
      exact ⟨rfl, (hacts.append rfl).append rfl⟩
    · rw [headerLive_missed (s := setMarker 0 s) hpage,
        headerLive_missed (s := setMarker 0 (withPackets l acts buf s)) (h.page ▸ hpage),
        beforePaint_setMarker, beforePaint_setMarker, beforePaint_withPackets h]
      exact ⟨rfl, (hacts.append rfl).append rfl⟩
  · rw [headerStep_held hhold, headerStep_held (s := withPackets l acts buf s) hhold]
    exact ⟨rfl, hacts.append rfl⟩

theorem rowStep_samePackets (p q : Packet) (r : Row) (l : Packet) {acts : List Action}
    (buf : Memory) {s : State} (hacts : SameActions s.actions acts) :
    SameButPackets (rowStep p r s) (rowStep q r (withPackets l acts buf s)) := by
  by_cases hmark : s.elideRow = r
  · rw [rowStep_marked hmark, rowStep_marked (s := withPackets l acts buf s) hmark]
    exact ⟨rfl, hacts.append rfl⟩
  · cases hcap : s.capturing
    · rw [rowStep_idle hmark hcap, rowStep_idle (s := withPackets l acts buf s) hmark hcap]
      exact ⟨rfl, hacts⟩
    · rw [rowStep_capture hmark hcap, rowStep_capture (s := withPackets l acts buf s) hmark hcap]
      rcases row_class r with htext | hmeta | rfl | hign
      · rw [captureRow_text htext, captureRow_text htext, paintText_eq, paintText_eq]
        exact ⟨rfl, hacts.append rfl⟩
      · rw [captureRow_meta hmeta, captureRow_meta hmeta]
        exact ⟨rfl, hacts.append rfl⟩
      · rw [captureRow_link, captureRow_link]
        exact ⟨rfl, hacts.append rfl⟩
      · rw [captureRow_ignored hign, captureRow_ignored hign]
        exact ⟨rfl, hacts⟩

theorem packetStep_related {p q : Packet} (hmag : magazineOf p = magazineOf q) {R : State → State → Prop}
    {f g : State → State} {s t : State} (hhalted : t.halted = s.halted)
    (hcurrent : t.currentMag = s.currentMag) (hR : R s t) (hfg : R (f s) (g t)) :
    ResultsRelated R (packetStep p f s) (packetStep q g t) := by
  rw [packetStep, packetStep, hcurrent, ← hmag, whenRunning, whenRunning, hhalted]
  split
  · rfl
  · split
    · exact hfg
    · exact hR

/-- Settles O59: the same class, the same filter, and transitions that read the same fields. -/
theorem unreadBitsAreUnobservable : Obligations.UnreadBitsAreUnobservable := fun p q s t h hst => by
  have hacts : SameActions s.actions t.actions := hst.2
  rw [exec_packet (decodePacket_packetRow p), exec_packet (decodePacket_packetRow q), ← h.row]
  have heq := hst.eq_withPackets
  refine packetStep_related h.magazine (by rw [heq]; rfl) (by rw [heq]; rfl) hst ?_
  rw [heq]
  split
  · exact headerStep_samePackets h _ _ hacts
  · exact rowStep_samePackets p q _ _ _ hacts

end Sys2Proof.Machine
end

section
/-! PROOFS. The control port (R170 to R180): its primitives, the quits, the recalls and the digits. -/

namespace Sys2Proof.Machine

/-- Settles O28: the codes of R203. -/
theorem haltCauseCodes : Obligations.HaltCauseCodes := ⟨rfl, rfl, rfl, rfl⟩

/-! ### The primitives -/

theorem execPrimitive_setTune_legal {s : State} (hrun : s.halted = false) {m : Magazine} (pg : Page)
    (hm : 1 ≤ m.toNat ∧ m.toNat ≤ 8) : execPrimitive (.setTune m pg) s = .next (tune m pg s) := by
  rw [execPrimitive, whenRunning_running hrun]
  exact if_pos ((legalMagazine_iff m).2 hm)

theorem not_legalMagazine {m : Magazine} (hm : m.toNat = 0 ∨ 8 < m.toNat) : ¬ legalMagazine m = true := by
  rw [legalMagazine_iff]; omega

/-- Settles O29: each primitive behind the guard. -/
theorem primitivesOfTheControlPort : Obligations.PrimitivesOfTheControlPort := fun _ hrun =>
  ⟨fun _ pg h1 h8 => execPrimitive_setTune_legal hrun pg ⟨h1, h8⟩,
    fun _ _ hm => (whenRunning_running hrun _).trans (if_neg (not_legalMagazine hm)),
    whenRunning_running hrun _, whenRunning_running hrun _, whenRunning_running hrun _,
    whenRunning_running hrun _⟩

/-! ### The quits and the recalls -/

theorem exec_quit_running {s : State} (hrun : s.halted = false) : exec .quit s = .next (halt .quit s) :=
  whenRunning_running hrun _

/-- Settles O49: both commands are `HALT(QUIT)`. -/
theorem quitHalts : Obligations.QuitHalts := fun _ hrun => ⟨exec_quit_running hrun, rfl⟩

/-- R177: each recall command reads its own slot, whichever of the two keys it came from. -/
theorem exec_recall {s : State} (hrun : s.halted = false) {second : Bool} {i : Instr} {f : PageId}
    (h : (i, f) ∈ [(Instr.fav0 second, s.favoriteSlots.slot0), (.fav1 second, s.favoriteSlots.slot1),
      (.fav2 second, s.favoriteSlots.slot2), (.fav3 second, s.favoriteSlots.slot3)]) :
    exec i s = mapNext (emit .rendererClear) (setTune f.mag f.page s) := by
  have hslots : ∃ slot, favourite s.favoriteSlots slot = f ∧
      exec i s = whenRunning s (favouriteStep slot s) := by
    simp only [List.mem_cons, List.not_mem_nil, or_false, Prod.mk.injEq] at h
    obtain ⟨rfl, rfl⟩ | ⟨rfl, rfl⟩ | ⟨rfl, rfl⟩ | ⟨rfl, rfl⟩ := h
    · exact ⟨0, rfl, rfl⟩
    · exact ⟨1, rfl, rfl⟩
    · exact ⟨2, rfl, rfl⟩
    · exact ⟨3, rfl, rfl⟩
  obtain ⟨slot, rfl, hexec⟩ := hslots
  rw [hexec, whenRunning_running hrun, favouriteStep]

/-- Settles O50: a recall is `SET_TUNE`, admitted, and one clear. -/
theorem favouriteRecallTunes : Obligations.FavouriteRecallTunes := fun s second hrun i f h h1 h8 => by
  rw [exec_recall hrun h, setTune, if_pos ((legalMagazine_iff _).2 ⟨h1, h8⟩)]
  rfl

/-! ### The digits -/

theorem exec_digit {i : Instr} {c : Byte} (h : (i, c) ∈ digitCommands) {s : State}
    (hrun : s.halted = false) : exec i s = digitStep c s := by
  have hexec : exec i s = whenRunning s (digitStep c s) := by
    simp only [digitCommands, List.mem_cons, List.not_mem_nil, or_false, Prod.mk.injEq] at h
    rcases h with ⟨rfl, rfl⟩ | ⟨rfl, rfl⟩ | ⟨rfl, rfl⟩ | ⟨rfl, rfl⟩ | ⟨rfl, rfl⟩ | ⟨rfl, rfl⟩ | ⟨rfl, rfl⟩ |
      ⟨rfl, rfl⟩ | ⟨rfl, rfl⟩ | ⟨rfl, rfl⟩ <;> rfl
  rw [hexec, whenRunning_running hrun]

theorem digitCommands_isDigit {i : Instr} {c : Byte} (h : (i, c) ∈ digitCommands) : isDigit c = true := by
  have hall : ∀ ic ∈ digitCommands, isDigit ic.2 = true := by decide
  exact hall _ h

theorem isDigit_iff (c : Byte) : isDigit c = true ↔ 0x30 ≤ c.toNat ∧ c.toNat ≤ 0x39 := by
  simp [isDigit, BitVec.le_def]

theorem frontTunes_iff (b : EntryBuf) : frontTunes b = true ↔ 0x31 ≤ b.c0.toNat ∧ b.c0.toNat ≤ 0x38 := by
  simp [frontTunes, BitVec.le_def]

/-- R178 in naturals: no digit wraps. -/
theorem digit_toNat_sub {c : Byte} (h : isDigit c = true) : (c - 0x30#8).toNat = c.toNat - 0x30 := by
  rw [isDigit_iff] at h
  bv_omega

theorem EntryBuf.wf_iff (b : EntryBuf) :
    b.wf = true ↔ isDigit b.c0 = true ∧ isDigit b.c1 = true ∧ isDigit b.c2 = true := by
  simp only [EntryBuf.wf, Bool.and_eq_true, and_assoc]

theorem entryMagazine_eq {b : EntryBuf} (h : b.wf = true) :
    entryMagazine b = BitVec.ofNat 4 (b.c0.toNat - 0x30) := by
  obtain ⟨h0, -, -⟩ := (EntryBuf.wf_iff b).1 h
  rw [entryMagazine, ← digit_toNat_sub h0, BitVec.ofNat_toNat]

theorem entryPage_eq {b : EntryBuf} (h : b.wf = true) :
    entryPage b = BitVec.ofNat 8 ((b.c1.toNat - 0x30) * 16 + (b.c2.toNat - 0x30)) := by
  obtain ⟨-, h1, h2⟩ := (EntryBuf.wf_iff b).1 h
  rw [entryPage, ← digit_toNat_sub h1, ← digit_toNat_sub h2]
  apply BitVec.eq_of_toNat_eq
  rw [BitVec.toNat_add, BitVec.toNat_mul, BitVec.toNat_ofNat, BitVec.toNat_ofNat]
  omega

/-- Settles O52: the shifted buffer holds digits, so its front decides in naturals and nothing wraps. -/
theorem digitShiftsAndTunes : Obligations.DigitShiftsAndTunes := fun s i c hrun hdigit hwf => by
  have hpushed := EntryBuf.push_wf hwf (digitCommands_isDigit hdigit)
  rw [exec_digit hdigit hrun, digitStep_eq, pushDigit_entryBuf]
  constructor
  · intro hfront
    rw [if_pos ((frontTunes_iff _).2 hfront), entryMagazine_eq hpushed, entryPage_eq hpushed]
    rfl
  · intro hfront
    have hno : ¬ frontTunes ⟨s.entryBuf.c1, s.entryBuf.c2, c⟩ = true := by
      rw [frontTunes_iff]
      rcases hfront with h | h <;> simp [h]
    rw [if_neg hno]
    rfl

/-- A digit command answers, tuning or not, and shifts the buffer. -/
theorem exec_digit_entryBuf {i : Instr} {c : Byte} (hdigit : (i, c) ∈ digitCommands) {s : State}
    (hrun : s.halted = false) : ∃ t, exec i s = .next t ∧ t.halted = false ∧
      t.entryBuf = ⟨s.entryBuf.c1, s.entryBuf.c2, c⟩ := by
  rw [exec_digit hdigit hrun, digitStep_eq]
  refine ⟨_, rfl, ?_⟩
  split <;> exact ⟨hrun, rfl⟩

/-- Settles O53: two shifts bring the first digit to the second place, from where the third tunes. -/
theorem threeDigitsTune : Obligations.ThreeDigitsTune :=
  fun s i j k a b c hrun hwf hi hj hk h1 h8 => by
  obtain ⟨t, ht, hrunt, hbuft⟩ := exec_digit_entryBuf hi hrun
  obtain ⟨u, hu, hrunu, hbufu⟩ := exec_digit_entryBuf hj hrunt
  rw [hbuft] at hbufu
  have hwfu : u.entryBuf.wf = true := by
    rw [hbufu]
    exact EntryBuf.push_wf (EntryBuf.push_wf hwf (digitCommands_isDigit hi)) (digitCommands_isDigit hj)
  have hfront : 0x31 ≤ u.entryBuf.c1.toNat ∧ u.entryBuf.c1.toNat ≤ 0x38 := by rw [hbufu]; exact ⟨h1, h8⟩
  have hv := (digitShiftsAndTunes u k c hrunu hk hwfu).1 hfront
  have hb := (isDigit_iff b).1 (digitCommands_isDigit hj)
  have hc := (isDigit_iff c).1 (digitCommands_isDigit hk)
  rw [hbufu] at hv
  dsimp only at hv
  refine ⟨t, u, _, ht, hu, hv, rfl, ?_, ?_, rfl, List.getLast?_concat⟩
  · rw [BitVec.toNat_ofNat]; omega
  · rw [BitVec.toNat_ofNat]; omega

end Sys2Proof.Machine
end

section
/-! PROOFS. The capture engine across packets: the text rows (R153, R154), the end of a cycle (R147), the skip
signal (R159) and a re-tune (R72, R239). -/

namespace Sys2Proof.Machine

/-! ### The end of a cycle -/

/-- The blanked rows, in the naturals of the statement (D14). -/
theorem unseenRows_eq (s : State) : unseenRows s =
    (((List.range 24).map (· + 1)).filter fun r => !s.rowsSeen.getLsbD r).map (BitVec.ofNat 5) := by
  have hrows : textRows = ((List.range 24).map (· + 1)).map (BitVec.ofNat 5) := rfl
  rw [unseenRows, hrows, List.filter_map]
  refine congrArg (List.map _) (List.filter_congr fun r hr => ?_)
  have hlt : r < 32 := by simp at hr; omega
  simp [isSeen, Nat.mod_eq_of_lt hlt]

/-- Settles O35: the missed case of the live header, with the blanked rows as numbers. -/
theorem otherHeaderEndsTheCycle : Obligations.OtherHeaderEndsTheCycle := fun p s h hhold hpage => by
  rw [exec_hdr_live h hhold, headerLive_missed (s := setMarker 0 s) hpage, beforePaint_setMarker,
    beforePaint, if_neg hpage, unseenRows_eq, List.map_map, ← List.append_assoc]
  rfl

/-! ### A captured text row -/

/-- R152 to R154: a captured text row, whole, for the renderer's next answer. -/
theorem captureRow_text_eq {r : Row} (h : r.toNat ≤ 24) (p : Packet) (s : State) :
    captureRow p r s = { s with
      rowsSeen := s.rowsSeen ||| (1#32 <<< r.toNat)
      answers := s.answers.tail
      draws := if s.answers = [] then s.draws + 1 else s.draws
      elideRow := if nextAnswer s then r + 1#5 else s.elideRow
      rowCounter := s.rowCounter + 1
      actions := s.actions ++ [.paintRow p r] } := by
  rw [captureRow_text h, paintText_eq]
  rfl

theorem exec_captured {i : Instr} {p : Packet} {r : Row} {s : State} (hrow : i.packetRow = some (p, r))
    (h1 : 1 ≤ r.toNat) (h : Accepts s p) (hmark : s.elideRow ≠ r) (hcap : s.capturing = true) :
    exec i s = .next (captureRow p r s) := by
  have hr : r ≠ 0#5 := by rintro rfl; simp at h1
  rw [exec_row_accepted hrow hr h, rowStep_capture hmark hcap]

/-- `s` after its captured text row `r` was painted and answered with `a`, the answers `rest` to come
(R153). -/
def afterText (p : Packet) (r : Row) (a : Bool) (rest : List Bool) (s : State) : State :=
  { s with
    answers := rest
    rowsSeen := s.rowsSeen ||| (1#32 <<< r.toNat)
    elideRow := if a then r + 1#5 else s.elideRow
    rowCounter := s.rowCounter + 1
    actions := s.actions ++ [.paintRow p r] }

theorem exec_text {i : Instr} {p : Packet} {r : Row} {s : State} {a : Bool} {rest : List Bool}
    (hrow : i.packetRow = some (p, r)) (h1 : 1 ≤ r.toNat) (h24 : r.toNat ≤ 24) (h : Accepts s p)
    (hmark : s.elideRow ≠ r) (hcap : s.capturing = true) (hans : s.answers = a :: rest) :
    exec i s = .next (afterText p r a rest s) := by
  have hnext : nextAnswer s = a := by rw [nextAnswer, hans]
  rw [exec_captured hrow h1 h hmark hcap, captureRow_text_eq h24, hnext, hans, List.tail_cons,
    if_neg (List.cons_ne_nil a rest), afterText]

/-- Settles O40: the scripted answer, or the free value at the counter of draws. -/
theorem capturedTextRowIsPainted : Obligations.CapturedTextRowIsPainted :=
  fun i p r s hrow h1 h24 h hmark hcap => by
  refine ⟨fun a rest => exec_text hrow h1 h24 h hmark hcap, fun hans => ⟨Config.freeAnswer s.draws, ?_⟩⟩
  have hnext : nextAnswer s = Config.freeAnswer s.draws := by rw [nextAnswer, hans]
  rw [exec_captured hrow h1 h hmark hcap, captureRow_text_eq h24, hnext, if_pos hans, hans, List.tail_nil]

/-! ### The skip signal -/

/-- Settles O44: the answer sets the marker, the first copy of the next row clears it, the second is captured
by its class. -/
theorem skipTriggersOncePerSignal : Obligations.SkipTriggersOncePerSignal :=
  fun i j p q r s a rest hi hj h1 h24 h hq hmark hcap hans => by
  have hne : r + 1#5 ≠ 0#5 := by bv_omega
  have hpaint := exec_text hi h1 h24 h hmark hcap hans
  have hskip := markedRowIsSkipped j q (r + 1#5) (afterText p r true (a :: rest) s) hj hne ⟨h.running, hq⟩ rfl
  refine ⟨_, _, _, hpaint, rfl, hskip, rfl, rfl, rfl,
    exec_captured hj (by bv_omega) ⟨h.running, hq⟩ hne.symm hcap, fun hlt => ?_, fun heq => ?_⟩
  · rw [captureRow_text_eq (by bv_omega)]
  · have hr : r + 1#5 = 25#5 := by bv_omega
    rw [captureRow_ignored (.inl hr)]
    rfl

/-! ### A re-tune -/

/-- Settles O60: `SET_TUNE` writes the tuned magazine, which the filter reads, and leaves `capturing`, the
marker and the answers. -/
theorem retuneActsOnTheNextPacket : Obligations.RetuneActsOnTheNextPacket := fun s mag pg hrun h1 h8 => by
  refine ⟨_, execPrimitive_setTune_legal hrun pg ⟨h1, h8⟩, rfl, fun i p r hrow hmag => ?_,
    fun i p r a rest hrow hr1 hr24 hmag hmark hcap hans => ?_⟩
  · exact otherMagazineIsDropped i p r (tune mag pg s) hrow hrun hmag
  · exact ⟨_, exec_text (s := tune mag pg s) hrow hr1 hr24 ⟨hrun, hmag⟩ hmark hcap hans, rfl⟩

end Sys2Proof.Machine
end

section
/-! PROOFS. The turns of a step: the packet's delivery, the key poll, the control channel, the interrupt,
reset and the halted block (R121, R182, R183, R186, R204, R231). -/

namespace Sys2Proof.Machine

/-! ### A packet turn -/

/-- Settles O16: the buffer is the delivery laid out from offset 0. -/
theorem bufferHoldsTheDelivery : Obligations.BufferHoldsTheDelivery := fun d =>
  ⟨Memory.fill_wf d, Memory.read_fill d, Memory.contents_fill d⟩

theorem nextDelivery_congr {s t : State} (h : t.pkt = s.pkt) : nextDelivery t = nextDelivery s := by
  rw [nextDelivery, nextDelivery, h]

theorem fill_drop_beginStep (d : Delivery) (s : State) :
    fillBuffer d (dropDelivery (beginStep s)) =
      { beginStep s with pkt := s.pkt.tail, buffer := Memory.fill d } := by
  rw [← beginStep_pkt]
  rfl

/-- Settles O17: the turn and the delivery are taken, the buffer is filled, the instruction runs. -/
theorem stepRunsTheDecodedPacket : Obligations.StepRunsTheDecodedPacket := fun s i hrun hturn hdecode => by
  have hd : nextDelivery (beginStep s) = nextDelivery s := nextDelivery_congr (beginStep_pkt s)
  rw [step_packet hrun hturn, servePacket_ok (by rw [beginStep_params, hd]; exact hdecode), hd,
    fill_drop_beginStep]

/-- Settles O20: nothing left is a delivery of length 0, which is short. -/
theorem exhaustedPortEndsTheRun : Obligations.ExhaustedPortEndsTheRun := fun s hrun hturn hpkt => by
  have hd : nextDelivery (beginStep s) = endOfStream := by rw [nextDelivery, beginStep_pkt, hpkt]
  have hshort : decode (beginStep s).params.favKeys (.packet (nextDelivery (beginStep s)).bytes) =
      .error (.shortPacket 0) := by rw [hd]; rfl
  obtain ⟨rest, -, hfatal⟩ := raiseFatalIngest_eq (fillBuffer endOfStream (dropDelivery (beginStep s)))
  refine ⟨_, (step_packet hrun hturn).trans (servePacket_error hshort), ?_⟩
  rw [hd, hfatal, fill_drop_beginStep]
  simp

/-! ### The key poll and the control channel -/

theorem step_key {s : State} (hrun : s.halted = false) (hturn : nextTurn s = .key) :
    step s = exec (decodeCommand s.params.favKeys s.keys.head?.join)
      { beginStep s with keys := s.keys.tail } := by
  rw [← beginStep_keys s, ← beginStep_params s, step, hturn, serve,
    whenRunning_running (by rw [beginStep_halted, hrun]), serveKey, interpret]

theorem step_message {s : State} (hrun : s.halted = false) (hturn : nextTurn s = .message) :
    step s = serveMessage (beginStep s) := by
  rw [step, hturn, serve, whenRunning_running (by rw [beginStep_halted, hrun])]

theorem serveMessage_none {s : State} (h : s.messages.head?.join = none) :
    serveMessage s = .next { s with messages := s.messages.tail } := by
  simp only [serveMessage, h]

theorem serveMessage_command {s : State} {m : List Byte} (h : s.messages.head?.join = some m)
    (hlen : m.length ≤ 1) : serveMessage s = mapNext acknowledge
      (exec (decodeCommand s.params.favKeys m.head?) { s with messages := s.messages.tail }) := by
  match m, hlen with
  | [], _ | [_], _ => simp only [serveMessage, h]; rfl

theorem serveMessage_long {s : State} {m : List Byte} (h : s.messages.head?.join = some m)
    (hlen : 1 < m.length) : serveMessage s = .refused .controlMessageTooLong := by
  match m, hlen with
  | _ :: _ :: _, _ => simp only [serveMessage, h]

theorem step_message_command {s : State} {m : List Byte} (hrun : s.halted = false)
    (hturn : nextTurn s = .message) (hm : s.messages.head?.join = some m) (hlen : m.length ≤ 1) :
    step s = mapNext acknowledge (exec (decodeCommand s.params.favKeys m.head?)
      { beginStep s with messages := s.messages.tail }) := by
  rw [← beginStep_messages s] at hm ⊢
  rw [← beginStep_params s, step_message hrun hturn, serveMessage_command hm hlen]

/-- Settles O18: a turn of each port, and the acknowledgement while running. -/
theorem stepRunsTheDecodedCommand : Obligations.StepRunsTheDecodedCommand := fun _ hrun =>
  ⟨step_key hrun, fun _ => step_message_command hrun, fun _ => acknowledge_running⟩

/-- Settles O25: no key is the empty input, which is no command; no message is no event. -/
theorem emptyPollsDoNothing : Obligations.EmptyPollsDoNothing := fun s hrun =>
  ⟨fun hturn hkey => by
    rw [step_key hrun hturn, hkey]
    exact exec_nocmd_running none (by simp [hrun]),
  fun hturn hmsg => by
    rw [step_message hrun hturn, serveMessage_none (by rw [beginStep_messages, hmsg]), beginStep_messages]⟩

/-- R180: either character is a quit, under every key table. -/
theorem exec_decodeCommand_quit {c : Byte} (hc : c = 0x71#8 ∨ c = 0x1B#8) (keys : FavKeys) {s : State}
    (hrun : s.halted = false) : exec (decodeCommand keys (some c)) s = .next (halt .quit s) := by
  rcases hc with rfl | rfl <;> exact exec_quit_running hrun

theorem step_key_quit {s : State} {c : Byte} (hrun : s.halted = false) (hturn : nextTurn s = .key)
    (hkey : s.keys.head?.join = some c) (hc : c = 0x71#8 ∨ c = 0x1B#8) :
    step s = .next (halt .quit { beginStep s with keys := s.keys.tail }) := by
  rw [step_key hrun hturn, hkey, exec_decodeCommand_quit hc _ (by simp [hrun])]

theorem step_message_quit {s : State} {c : Byte} (hrun : s.halted = false) (hturn : nextTurn s = .message)
    (hm : s.messages.head?.join = some [c]) (hc : c = 0x71#8 ∨ c = 0x1B#8) :
    step s = .next (acknowledge (halt .quit { beginStep s with messages := s.messages.tail })) := by
  rw [step_message_command hrun hturn hm (by simp), List.head?_cons,
    exec_decodeCommand_quit hc _ (by simp [hrun]), mapNext_next]

/-- R183 with U7: an acknowledgement emits `Ack` or nothing. -/
theorem acknowledge_eq (s : State) : ∃ rest : List Action, (rest = [] ∨ rest = [.ack]) ∧
    acknowledge s = { s with actions := s.actions ++ rest } :=
  ⟨if s.halted && !Config.ackAfterQuit then [] else [.ack], by split <;> simp, rfl⟩

/-- Settles O26: both ports run `QUIT`; after the message the acknowledgement is open. -/
theorem quitIsTheSameFromKeyAndMessage : Obligations.QuitIsTheSameFromKeyAndMessage := fun s c hrun hc => by
  refine ⟨step_key_quit (s := { s with turns := [.key], keys := [some c] }) hrun rfl rfl hc, ?_⟩
  obtain ⟨rest, hrest, hack⟩ :=
    acknowledge_eq (halt .quit { s with turns := [], messages := [], actions := [] })
  exact ⟨rest, hrest,
    (step_message_quit (s := { s with turns := [.message], messages := [some [c]] }) hrun rfl rfl hc).trans
      (congrArg Host.Outcome.next hack)⟩

/-- Settles O51: a recall is `SET_TUNE`, not admitted, and a longer message is not read. -/
theorem inputsTheSpecRefuses : Obligations.InputsTheSpecRefuses :=
  ⟨fun s second hrun i f h hm => by rw [exec_recall hrun h, setTune, if_neg (not_legalMagazine hm)]; rfl,
    fun s m hrun hturn hm hlen => by
    rw [step_message hrun hturn, serveMessage_long (by rw [beginStep_messages, hm]) hlen]⟩

/-! ### The environment -/

/-- Settles O27: the interrupt is `HALT(INT)` from an empty action list. -/
theorem interruptHalts : Obligations.InterruptHalts := fun s hrun hturn => by
  rw [step, hturn, serve, execPrimitive, whenRunning_running (by rw [beginStep_halted, hrun])]
  simp [halt, haltWith, emit]

theorem exec_halted (i : Instr) {s : State} (h : s.halted = true) : exec i s = .fault .halted := by
  cases hrow : i.packetRow with
  | none =>
    obtain ⟨f, -, heq⟩ := exec_command hrow
    rw [heq, whenRunning_halted h]
  | some pr => rw [exec_packet hrow, packetStep_halted h]

/-- Settles O21: every meaning is behind the guard, and every turn but a reset. -/
theorem haltedTakesNoStep : Obligations.HaltedTakesNoStep := by
  refine ⟨fun i s => exec_halted i, fun s h hturn => ?_⟩
  have hbegin : (beginStep s).halted = true := by rw [beginStep_halted, h]
  rw [step]
  cases hτ : nextTurn s with
  | reset m p => exact absurd hτ (hturn m p)
  | _ => exact whenRunning_halted hbegin _

/-- Settles O22: the domain of the two parameters decides. -/
theorem resetWritesEveryRegister : Obligations.ResetWritesEveryRegister := fun s m p hturn => by
  rw [step, hturn, serve, resetBlock]
  constructor
  · intro hm hp
    rw [if_pos ⟨hm, hp⟩, apply_ite (BitVec.ofNat 4), ← beginStep_params s]
    rfl
  · intro hout
    exact if_neg (by omega)

end Sys2Proof.Machine
end
